-- ==== Sys2Proof/Word.lean ====
section
/-! DEFINITION. The word types of PNGC-CORE: bytes, 32-bit words, and offsets within a region of the bus address space. -/

namespace Sys2Proof

/-- One byte of a buffer, of a tag or of a frame (00_scope R10). -/
abbrev Byte := BitVec 8

/-- A register, a bus data word, a bus address or a command word: all are 32 bits (00_scope R6, 10_state R21, 30_encoding R91). -/
abbrev Word := BitVec 32

/-- An offset within one region: address bits 29 to 0 (20_memory R61). -/
abbrev Offset := BitVec 30

end Sys2Proof
end

