-- ==== Sys2Proof/Config.lean ====
section
/-! DEFINITION. What a build of PNGC-CORE fixes and what the spec leaves free (00_scope R6). Nothing here has a body, so no proof can
learn a value: a theorem that mentions one of these holds for every value of it. -/

namespace Sys2Proof

/-- `DATA_MAX / 4` of the build (00_scope R6, D6). The legal capacities are exactly `4 * k` for `k < 2^28 - 2`, because
`DATA_MAX mod 4 = 0` and `DATA_MAX <= 2^30 - 12`. OPEN in the spec; log 1. -/
opaque Config.dataWords : Fin 268435454

/-- `IBUF_INIT` (00_scope R6, 20_memory R77, D18): the byte that index `i` of IBUF holds from the `d`-th reset on, until it is
written. A free value; log 2. -/
opaque Config.ibufInit (d i : Nat) : Byte

/-- The unspecified byte at index `i` of CHDATA after the `d`-th reset (70_reset_and_hazards R230). A free value; log 3. -/
opaque Config.chdataInit (d i : Nat) : Byte

/-- The unspecified byte at index `i` of OBUF after the `d`-th reset (70_reset_and_hazards R230). A free value; log 3. -/
opaque Config.obufInit (d i : Nat) : Byte

end Sys2Proof
end

