-- ==== Sys2Proof/Syntax.lean ====
section
/-! DEFINITION. The abstract syntax: bus transactions, the two decode domains, the register names, and `Instr`, one constructor per
row of spec/opcode_table.json. -/

namespace Sys2Proof

/-- A host transaction `(we, a, w)` (30_encoding R96): `we` is true for a write, `addr` is the byte address, `data` the write data,
which a read does not use. -/
structure Transaction where
  we   : Bool
  addr : Word
  data : Word
  deriving DecidableEq, Repr

/-- The two things PNGC-CORE decodes (30_encoding R90, R96): a command word written to `CMD`, or a bus transaction. -/
inductive Form where
  | cmd (w : Word)
  | bus (t : Transaction)
  deriving DecidableEq, Repr

/-- The sixteen registers of the map of 10_state R22, in the order of their offsets. -/
inductive Reg where
  | id | param | ctrl | status | cmd | typeIn | ibufLen | tag
  | tagFlags | chType | chFlags | chLen | chCrc | obufLen | crcAcc | crcValue
  deriving DecidableEq, Repr

/-- The instructions: the rows of spec/opcode_table.json, in its order. The first ten are command words (format CMD), whose operands
are implicit (30_encoding R92); the others are bus transactions (format BUS, 30_encoding R96). `w` is the data of a write, `off` an
offset within the region, `a` a whole address. -/
inductive Instr where
  /-- `TYPE_FROM_BYTES`: command word 0x00000001 (40_tag_decoder R120). -/
  | typeFromBytes
  /-- `TYPE_FROM_TEXT`: command word 0x00000002 (40_tag_decoder R122). -/
  | typeFromText
  /-- `CHUNK_NEW`: command word 0x00000003 (42_chunk_framer R164). -/
  | chunkNew
  /-- `CHUNK_DECODE`: command word 0x00000004 (42_chunk_framer R170). -/
  | chunkDecode
  /-- `CHUNK_ENCODE`: command word 0x00000005 (42_chunk_framer R166). -/
  | chunkEncode
  /-- `DATA_AS_TEXT`: command word 0x00000006 (42_chunk_framer R180). -/
  | dataAsText
  /-- `CHUNK_DISCARD`: command word 0x00000007 (42_chunk_framer R178). -/
  | chunkDiscard
  /-- `CRC_CLEAR`: command word 0x00000008 (41_crc32 R150). -/
  | crcClear
  /-- `CRC_ACCUM`: command word 0x00000009 (41_crc32 R152). -/
  | crcAccum
  /-- `ILLEGAL_CMD`: any other command word `w` (30_encoding R94, R95). -/
  | illegalCmd (w : Word)
  /-- `RD_MISALIGNED_1`: read at an address `a` with `a[1:0] = 01` (20_memory R63). -/
  | rdMisaligned1 (a : Word)
  /-- `RD_MISALIGNED_2`: read at an address `a` with `a[1:0] = 10` (20_memory R63). -/
  | rdMisaligned2 (a : Word)
  /-- `RD_MISALIGNED_3`: read at an address `a` with `a[1:0] = 11` (20_memory R63). -/
  | rdMisaligned3 (a : Word)
  /-- `WR_MISALIGNED_1`: write at an address `a` with `a[1:0] = 01` (20_memory R63). -/
  | wrMisaligned1 (a : Word) (w : Word)
  /-- `WR_MISALIGNED_2`: write at an address `a` with `a[1:0] = 10` (20_memory R63). -/
  | wrMisaligned2 (a : Word) (w : Word)
  /-- `WR_MISALIGNED_3`: write at an address `a` with `a[1:0] = 11` (20_memory R63). -/
  | wrMisaligned3 (a : Word) (w : Word)
  /-- `RD_ID`: read of the register `ID` (R23). -/
  | rdId
  /-- `WR_ID`: write of the register `ID` (R65). -/
  | wrId (w : Word)
  /-- `RD_PARAM`: read of the register `PARAM` (R24). -/
  | rdParam
  /-- `WR_PARAM`: write of the register `PARAM` (R65). -/
  | wrParam (w : Word)
  /-- `RD_CTRL`: read of the register `CTRL` (R25). -/
  | rdCtrl
  /-- `WR_CTRL`: write of the register `CTRL` (R65). -/
  | wrCtrl (w : Word)
  /-- `RD_STATUS`: read of the register `STATUS` (R26). -/
  | rdStatus
  /-- `WR_STATUS`: write of the register `STATUS` (R65). -/
  | wrStatus (w : Word)
  /-- `RD_CMD`: read of the register `CMD` (R47). -/
  | rdCmd
  /-- `WR_CMD`: write of the register `CMD` (R47). -/
  | wrCmd (w : Word)
  /-- `RD_TYPE_IN`: read of the register `TYPE_IN` (R41). -/
  | rdTypeIn
  /-- `WR_TYPE_IN`: write of the register `TYPE_IN` (R65). -/
  | wrTypeIn (w : Word)
  /-- `RD_IBUF_LEN`: read of the register `IBUF_LEN` (R42). -/
  | rdIbufLen
  /-- `WR_IBUF_LEN`: write of the register `IBUF_LEN` (R65). -/
  | wrIbufLen (w : Word)
  /-- `RD_TAG`: read of the register `TAG` (R40). -/
  | rdTag
  /-- `WR_TAG`: write of the register `TAG` (R65). -/
  | wrTag (w : Word)
  /-- `RD_TAG_FLAGS`: read of the register `TAG_FLAGS` (R46). -/
  | rdTagFlags
  /-- `WR_TAG_FLAGS`: write of the register `TAG_FLAGS` (R65). -/
  | wrTagFlags (w : Word)
  /-- `RD_CH_TYPE`: read of the register `CH_TYPE` (R37). -/
  | rdChType
  /-- `WR_CH_TYPE`: write of the register `CH_TYPE` (R65). -/
  | wrChType (w : Word)
  /-- `RD_CH_FLAGS`: read of the register `CH_FLAGS` (R46). -/
  | rdChFlags
  /-- `WR_CH_FLAGS`: write of the register `CH_FLAGS` (R65). -/
  | wrChFlags (w : Word)
  /-- `RD_CH_LEN`: read of the register `CH_LEN` (R38). -/
  | rdChLen
  /-- `WR_CH_LEN`: write of the register `CH_LEN` (R65). -/
  | wrChLen (w : Word)
  /-- `RD_CH_CRC`: read of the register `CH_CRC` (R39). -/
  | rdChCrc
  /-- `WR_CH_CRC`: write of the register `CH_CRC` (R65). -/
  | wrChCrc (w : Word)
  /-- `RD_OBUF_LEN`: read of the register `OBUF_LEN` (R43). -/
  | rdObufLen
  /-- `WR_OBUF_LEN`: write of the register `OBUF_LEN` (R65). -/
  | wrObufLen (w : Word)
  /-- `RD_CRC_ACC`: read of the register `CRC_ACC` (R45). -/
  | rdCrcAcc
  /-- `WR_CRC_ACC`: write of the register `CRC_ACC` (R65). -/
  | wrCrcAcc (w : Word)
  /-- `RD_CRC_VALUE`: read of the register `CRC_VALUE` (R154). -/
  | rdCrcValue
  /-- `WR_CRC_VALUE`: write of the register `CRC_VALUE` (R65). -/
  | wrCrcValue (w : Word)
  /-- `RD_REG_RESERVED`: read at a reserved offset of the register block (20_memory R66). -/
  | rdRegReserved (off : Offset)
  /-- `WR_REG_RESERVED`: write at a reserved offset of the register block (20_memory R66). -/
  | wrRegReserved (off : Offset) (w : Word)
  /-- `RD_IBUF`: read in the IBUF window (20_memory R64). -/
  | rdIbuf (off : Offset)
  /-- `WR_IBUF`: write in the IBUF window (20_memory R65). -/
  | wrIbuf (off : Offset) (w : Word)
  /-- `RD_CHDATA`: read in the CHDATA window (20_memory R64). -/
  | rdChdata (off : Offset)
  /-- `WR_CHDATA`: write in the CHDATA window (20_memory R65). -/
  | wrChdata (off : Offset) (w : Word)
  /-- `RD_OBUF`: read in the OBUF window (20_memory R64). -/
  | rdObuf (off : Offset)
  /-- `WR_OBUF`: write in the OBUF window (20_memory R65). -/
  | wrObuf (off : Offset) (w : Word)
  deriving DecidableEq, Repr

end Sys2Proof
end

