-- ==== Sys2Proof/Machine/State.lean ====
section
/-! DEFINITION. The state of PNGC-CORE (10_state R20, R50), plain data, and the state right after reset (70_reset_and_hazards R230). -/

namespace Sys2Proof.Machine

/-- The values of `STATUS.ERR` that are ever produced (10_state R30; values 7 to 15 never are, 93 U16, log 9). -/
inductive Err where
  | ok | format | crcMismatch | encoding | capacity | noChunk | illegalCmd
  deriving DecidableEq, Repr

/-- The values of `STATUS.CAUSE` that are ever produced (10_state R31; values 5 to 15 never are, 93 U16, log 9). -/
inductive Cause where
  | none | frameTooShort | lengthMismatch | textLength | textNotAlpha
  deriving DecidableEq, Repr

/-- The storage of one byte buffer (20_memory R60): the bytes written since reset, each with its index. An index that is not listed
has not been written since reset (20_memory R77). -/
abbrev Memory := List Host.Cell

/-- The canonical form of a `Memory`: indices strictly rising. What an unlisted index reads as at this level is `none`, "not written
since reset", which no entry equals; so equal memories are equal lists (log 10). -/
def Memory.wf : Memory → Bool
  | [] => true
  | [_] => true
  | c :: d :: m => decide (c.1 < d.1) && Memory.wf (d :: m)

/-- One move in the total order of events (20_memory R68, 60_exceptions R204, 70_reset_and_hazards R232; log 5). -/
inductive Move where
  /-- The host issues a bus transaction. -/
  | host (t : Transaction)
  /-- The host asserts `rst`. -/
  | rst
  /-- The core sequencer takes its turn: `Complete`, if it is enabled. -/
  | seq
  deriving DecidableEq, Repr

/-- Reasons to stop with a fault. There are none: PNGC-CORE has no trap and never stops (60_exceptions R205). A failing command
completes with an error code and a bad access sets a sticky flag; both are next states. Nobody raises a fault. -/
inductive Fault where
  deriving DecidableEq, Repr

/-- Reasons to refuse an instruction. -/
inductive Refusal where
  /-- Raised by an arm of `exec` whose instruction has no meaning yet, under the row's mnemonic. Safe: the model stops where the
  hardware goes on. Every instruction of this model has its meaning, so no arm raises it. -/
  | notModelled (mnemonic : String)
  deriving DecidableEq, Repr

/-- The state. The spec's own state is the first three groups; the fourth is the model's own (logs 1, 4, 5, 6). -/
structure State where
  /-- `CTRL.IE` (10_state R25). -/
  ctrlIe  : Bool
  /-- `STATUS.BUSY` (10_state R27). -/
  busy    : Bool
  /-- `STATUS.DONE` (10_state R28). -/
  done    : Bool
  /-- `STATUS.CH_VALID` (10_state R29). -/
  chValid : Bool
  /-- `STATUS.BUSERR` (10_state R32). -/
  buserr  : Bool
  /-- `STATUS.WRBUSY` (10_state R33). -/
  wrbusy  : Bool
  /-- `STATUS.ERR` (10_state R30). -/
  err     : Err
  /-- `STATUS.CAUSE` (10_state R31). -/
  cause   : Cause
  /-- `STATUS.LAST_OP` (10_state R34). -/
  lastOp  : Byte
  /-- `PEND`, the accepted command word while `BUSY = 1` (10_state R48). -/
  pend    : Word
  /-- `TYPE_IN` (10_state R41). -/
  typeIn  : Word
  /-- `IBUF_LEN` (10_state R42). -/
  ibufLen : Word
  /-- `TAG` (10_state R40). -/
  tag     : Word
  /-- `CH_TYPE` (10_state R37). -/
  chType  : Word
  /-- `CH_LEN` (10_state R38). -/
  chLen   : Word
  /-- `CH_CRC` (10_state R39). -/
  chCrc   : Word
  /-- `OBUF_LEN` (10_state R43). -/
  obufLen : Word
  /-- `CRC_ACC` (10_state R45). -/
  crcAcc  : Word
  /-- The bytes of IBUF written since reset (20_memory R60, R77). -/
  ibuf    : Memory
  /-- The bytes of CHDATA written since reset (20_memory R60). -/
  chdata  : Memory
  /-- The bytes of OBUF written since reset (20_memory R60). -/
  obuf    : Memory
  /-- MODEL: the build parameter `DATA_MAX / 4` (00_scope R6; log 1). No step changes it. -/
  dataWords : Fin 268435454
  /-- MODEL: how many resets have happened; the index of the free draws (20_memory R77, D18; log 4). -/
  draw    : Nat
  /-- MODEL: the value the bus port answered to the last read (20_memory R64; log 6). -/
  rdata   : Word
  /-- MODEL: the moves still to come, first to last (20_memory R68; log 5). -/
  sched   : List Move
  deriving DecidableEq, Repr

/-- The state right after reset (70_reset_and_hazards R230, 10_state R22). `pend` is meaningless while `BUSY = 0` (log 7); the last
four fields are the model's own. -/
def State.reset : State where
  ctrlIe  := false
  busy    := false
  done    := false
  chValid := false
  buserr  := false
  wrbusy  := false
  err     := .ok
  cause   := .none
  lastOp  := 0x00
  pend    := 0x00000000
  typeIn  := 0x00000000
  ibufLen := 0x00000000
  tag     := 0x00000000
  chType  := 0x00000000
  chLen   := 0x00000000
  chCrc   := 0x00000000
  obufLen := 0x00000000
  crcAcc  := 0xFFFFFFFF
  ibuf    := []
  chdata  := []
  obuf    := []
  dataWords := Config.dataWords
  draw    := 0
  rdata   := 0x00000000
  sched   := []

end Sys2Proof.Machine
end

