-- ==== Sys2Proof/Machine/Ops.lean ====
section
/-! DEFINITION. The named operations over the buffers, the registers, the bus port and the command in flight, which every meaning is
written with. -/

namespace Sys2Proof.Machine

/-! ## Buffer storage -/

/-- The byte written at index `i` since reset, if one was (20_memory R77). -/
def Memory.read? : Memory → Nat → Option Byte
  | [], _ => none
  | c :: m, i => if i = c.1 then some c.2 else Memory.read? m i

/-- Store `v` at index `i`, keeping the canonical form. -/
def Memory.write : Memory → Nat → Byte → Memory
  | [], i, v => [(i, v)]
  | c :: m, i, v =>
    if i < c.1 then (i, v) :: c :: m
    else if i = c.1 then (i, v) :: m
    else c :: Memory.write m i v

/-- `MemWrite(buf, a, n, s)` with `n = |s|` (00_scope R11): store the bytes of `s` from index `a` on. -/
def Memory.writeBytes : Memory → Nat → List Byte → Memory
  | m, _, [] => m
  | m, a, b :: s => Memory.writeBytes (Memory.write m a b) (a + 1) s

/-! ## Sizes -/

/-- `DATA_MAX`, the size of CHDATA in bytes (00_scope R6). -/
def State.dataMax (s : State) : Nat := 4 * s.dataWords.val

/-- `IBUF_MAX = DATA_MAX + 12` (00_scope R6). -/
def State.ibufMax (s : State) : Nat := s.dataMax + 12

/-- `OBUF_MAX = DATA_MAX + 12` (00_scope R6). -/
def State.obufMax (s : State) : Nat := s.dataMax + 12

/-! ## Bytes of the buffers -/

/-- `IBUF[i]`: the byte written, or the draw `IBUF_INIT(i)` (20_memory R77). -/
def State.ibufByte (s : State) (i : Nat) : Byte := (s.ibuf.read? i).getD (Config.ibufInit s.draw i)

/-- `CHDATA[i]`: the byte written, or the unspecified byte that storage holds after reset (70_reset_and_hazards R230). -/
def State.chdataByte (s : State) (i : Nat) : Byte := (s.chdata.read? i).getD (Config.chdataInit s.draw i)

/-- `OBUF[i]`: the byte written, or the unspecified byte that storage holds after reset (70_reset_and_hazards R230). -/
def State.obufByte (s : State) (i : Nat) : Byte := (s.obuf.read? i).getD (Config.obufInit s.draw i)

/-! ## The bus port -/

/-- The port answers `v` to a bus read (20_memory R64). -/
def State.reply (s : State) (v : Word) : State := { s with rdata := v }

/-- `BUSERR <- 1` (10_state R32, 60_exceptions R202). -/
def State.flagBuserr (s : State) : State := { s with buserr := true }

/-- `WRBUSY <- 1` (10_state R33, 60_exceptions R202). -/
def State.flagWrbusy (s : State) : State := { s with wrbusy := true }

/-- A read that goes wrong: `BUSERR <- 1; return 0x00000000` (20_memory R63, R64, R66). -/
def State.badRead (s : State) : State := s.flagBuserr.reply 0

/-- A write that is blocked while `BUSY = 1` (20_memory R65, 10_state R33): ignored with `WRBUSY <- 1`, else its effect `t`. -/
def State.unlessBusy (s t : State) : State := if s.busy then s.flagWrbusy else t

/-- A write of `w` to `STATUS` (10_state R26, 20_memory R65): bits 1, 16 and 17 clear `DONE`, `BUSERR` and `WRBUSY`. -/
def State.clearStatus (s : State) (w : Word) : State :=
  { s with
    done   := s.done && !w.getLsbD 1
    buserr := s.buserr && !w.getLsbD 16
    wrbusy := s.wrbusy && !w.getLsbD 17 }

/-! ## The command in flight -/

/-- Accept the command word `w` (10_state R47): `PEND <- w`, `BUSY <- 1`, `DONE <- 0`, `LAST_OP <- w[7:0]`. -/
def State.accept (s : State) (w : Word) : State :=
  { s with pend := w, busy := true, done := false, lastOp := w.extractLsb' 0 8 }

/-- What a command body answers (30_encoding R100): `Ok(writes)`, given as the state with the writes applied, or `Fail(e, c)`. -/
inductive CmdOutcome where
  | ok (t : State)
  | fail (e : Err) (c : Cause)
  deriving DecidableEq, Repr

/-- The end of every `Complete` step (30_encoding R100): `ERR`, `CAUSE`, `BUSY <- 0`, `DONE <- 1`. -/
def State.retire (s : State) (e : Err) (c : Cause) : State :=
  { s with err := e, cause := c, busy := false, done := true }

/-- A command that fails, the spec's "trap entry" (60_exceptions R205, 30_encoding R100): nothing is saved and no other state
changes. There is no return from it (60_exceptions R206). -/
def State.fail (s : State) (e : Err) (c : Cause) : State := s.retire e c

/-- The `Complete` step of a command with outcome `o` (30_encoding R100). -/
def State.complete (s : State) : CmdOutcome → State
  | .ok t => t.retire .ok .none
  | .fail e c => s.fail e c

/-! ## Moves -/

/-- The first move of the schedule has been taken. -/
def State.dropMove (s : State) : State := { s with sched := s.sched.tail }

/-- `rst` (70_reset_and_hazards R230, R231): the reset state, with fresh draws (20_memory R77). The build parameter stays, and so do
what the host has already received and the moves still to come, which are no state of the block (logs 4, 5, 6). -/
def State.doReset (s : State) : State :=
  { State.reset with dataWords := s.dataWords, draw := s.draw + 1, rdata := s.rdata, sched := s.sched }

end Sys2Proof.Machine
end

