-- ==== Sys2Proof/Machine/Operands.lean ====
section
/-! DEFINITION. Operand assembly (30_encoding R92, 20_memory R74, R75): big-endian fields, byte strings out of the buffers, and the
words a window read returns. -/

namespace Sys2Proof.Machine

/-! ## Big-endian fields -/

/-- `be32(s)` of a 4-byte string (00_scope R10). Every use has 4 bytes; a string of another length has no such value and gets 0. -/
def be32 : List Byte → Word
  | [b0, b1, b2, b3] => b0 ++ b1 ++ b2 ++ b3
  | _ => 0

/-- `bytes_be32(v)` (00_scope R10). -/
def bytesBe32 (v : Word) : List Byte :=
  [v.extractLsb' 24 8, v.extractLsb' 16 8, v.extractLsb' 8 8, v.extractLsb' 0 8]

/-- `s[a .. b)` (00_scope R10). -/
def slice (s : List Byte) (a b : Nat) : List Byte := (s.drop a).take (b - a)

/-! ## Byte strings out of the buffers -/

/-- `IBUF[0 .. n)` (20_memory R74). -/
def State.ibufBytes (s : State) (n : Nat) : List Byte := (List.range n).map s.ibufByte

/-- `CHDATA[0 .. n)` (20_memory R74). -/
def State.chdataBytes (s : State) (n : Nat) : List Byte := (List.range n).map s.chdataByte

/-- `OBUF[0 .. n)`. -/
def State.obufBytes (s : State) (n : Nat) : List Byte := (List.range n).map s.obufByte

/-! ## Window words (20_memory R62, R64) -/

/-- The word at offset `off` of the IBUF window. -/
def State.ibufWord (s : State) (off : Nat) : Word :=
  be32 [s.ibufByte off, s.ibufByte (off + 1), s.ibufByte (off + 2), s.ibufByte (off + 3)]

/-- Byte `i` of CHDATA as the bus sees it: `0x00` at or past `CH_LEN` (20_memory R64, D17). -/
def State.chdataSeen (s : State) (i : Nat) : Byte := if i < s.chLen.toNat then s.chdataByte i else 0x00

/-- The word at offset `off` of the CHDATA window. -/
def State.chdataWord (s : State) (off : Nat) : Word :=
  be32 [s.chdataSeen off, s.chdataSeen (off + 1), s.chdataSeen (off + 2), s.chdataSeen (off + 3)]

/-- Byte `i` of OBUF as the bus sees it: `0x00` at or past `OBUF_LEN` (20_memory R64, D17). -/
def State.obufSeen (s : State) (i : Nat) : Byte := if i < s.obufLen.toNat then s.obufByte i else 0x00

/-- The word at offset `off` of the OBUF window. -/
def State.obufWord (s : State) (off : Nat) : Word :=
  be32 [s.obufSeen off, s.obufSeen (off + 1), s.obufSeen (off + 2), s.obufSeen (off + 3)]

end Sys2Proof.Machine
end

