-- ==== Sys2Proof/Machine/Flags.lean ====
section
/-! DEFINITION. Every flag the spec computes: the tag flags (40_tag_decoder), the `STATUS` and `CTRL` words, the interrupt output, and
the value each register reads as (REGVAL of 20_memory R64). -/

namespace Sys2Proof.Machine

/-! ## The tag decoder -/

/-- `letter(b)`: an ASCII letter (40_tag_decoder R118). -/
def letter (b : Byte) : Bool :=
  (decide (0x41#8 ≤ b) && decide (b ≤ 0x5A#8)) || (decide (0x61#8 ≤ b) && decide (b ≤ 0x7A#8))

/-- `alpha(t)`: every byte is a letter (40_tag_decoder R118). -/
def alpha (t : List Byte) : Bool := t.all letter

/-- The case bit, bit 5, of byte `i` of a tag (00_scope R9). -/
def caseBit (t : List Byte) (i : Nat) : Bool := (t.getD i 0).getLsbD 5

/-- `critical(t)` (40_tag_decoder R111). -/
def critical (t : List Byte) : Bool := !caseBit t 0

/-- `public(t)` (40_tag_decoder R112). -/
def isPublic (t : List Byte) : Bool := !caseBit t 1

/-- `reserved_valid(t)` (40_tag_decoder R113). -/
def reservedValid (t : List Byte) : Bool := !caseBit t 2

/-- `safe_to_copy(t)` (40_tag_decoder R114). -/
def safeToCopy (t : List Byte) : Bool := caseBit t 3

/-- `valid(t)` (40_tag_decoder R115). -/
def tagValid (t : List Byte) : Bool := reservedValid t

/-- `flags(v)`, bit 0 last (40_tag_decoder R116, R117). -/
def tagFlags (v : Word) : Word :=
  let t := bytesBe32 v
  (BitVec.ofBool (alpha t) ++ BitVec.ofBool (tagValid t) ++ BitVec.ofBool (safeToCopy t) ++
    BitVec.ofBool (reservedValid t) ++ BitVec.ofBool (isPublic t) ++ BitVec.ofBool (critical t)).setWidth 32

/-! ## Status -/

/-- The code of an error in `STATUS.ERR` (10_state R30). -/
def Err.code : Err → BitVec 4
  | .ok => 0
  | .format => 1
  | .crcMismatch => 2
  | .encoding => 3
  | .capacity => 4
  | .noChunk => 5
  | .illegalCmd => 6

/-- The code of a cause in `STATUS.CAUSE` (10_state R31). -/
def Cause.code : Cause → BitVec 4
  | .none => 0
  | .frameTooShort => 1
  | .lengthMismatch => 2
  | .textLength => 3
  | .textNotAlpha => 4

/-- The `STATUS` word, reserved bits 0 (10_state R26). -/
def State.statusWord (s : State) : Word :=
  s.lastOp ++ (0#6) ++ BitVec.ofBool s.wrbusy ++ BitVec.ofBool s.buserr ++ (0#4) ++ s.cause.code ++ s.err.code ++
    (0#1) ++ BitVec.ofBool s.chValid ++ BitVec.ofBool s.done ++ BitVec.ofBool s.busy

/-- The `CTRL` word, reserved bits 0 (10_state R25). -/
def State.ctrlWord (s : State) : Word := (BitVec.ofBool s.ctrlIe).setWidth 32

/-- The output `irq = CTRL.IE AND STATUS.DONE` (10_state R49, 60_exceptions R207). -/
def State.irq (s : State) : Bool := s.ctrlIe && s.done

/-! ## Register values -/

/-- `CRC_VALUE = CRC_ACC XOR 0xFFFFFFFF` (10_state R45). -/
def State.crcValue (s : State) : Word := s.crcAcc ^^^ 0xFFFFFFFF#32

/-- `REGVAL` of 20_memory R64: what a register reads as (10_state R22 to R47). -/
def State.regVal (s : State) : Reg → Word
  | .id => 0x504E4743
  | .param => BitVec.ofNat 32 s.dataMax
  | .ctrl => s.ctrlWord
  | .status => s.statusWord
  | .cmd => 0x00000000
  | .typeIn => s.typeIn
  | .ibufLen => s.ibufLen
  | .tag => s.tag
  | .tagFlags => tagFlags s.tag
  | .chType => s.chType
  | .chFlags => tagFlags s.chType
  | .chLen => s.chLen
  | .chCrc => s.chCrc
  | .obufLen => s.obufLen
  | .crcAcc => s.crcAcc
  | .crcValue => s.crcValue

end Sys2Proof.Machine
end

