-- ==== Sys2Proof/Machine/BusRead.lean ====
section
/-! DEFINITION. The bus reads (20_memory R63, R64, R66): one meaning per RD row of spec/opcode_table.json. -/

namespace Sys2Proof.Machine

/-! ## Misaligned reads -/

/-- A read with `a[1:0] = 01`: answers 0x00000000 and `BUSERR <- 1` (20_memory R63). -/
def execRdMisaligned1 (_a : Word) (s : State) : Host.Outcome State Fault Refusal := .next s.badRead

/-- A read with `a[1:0] = 10`: answers 0x00000000 and `BUSERR <- 1` (20_memory R63). -/
def execRdMisaligned2 (_a : Word) (s : State) : Host.Outcome State Fault Refusal := .next s.badRead

/-- A read with `a[1:0] = 11`: answers 0x00000000 and `BUSERR <- 1` (20_memory R63). -/
def execRdMisaligned3 (_a : Word) (s : State) : Host.Outcome State Fault Refusal := .next s.badRead

/-! ## Register reads -/

/-- A read of `ID` (10_state R23, 20_memory R64). -/
def execRdId (s : State) : Host.Outcome State Fault Refusal := .next (s.reply (s.regVal .id))

/-- A read of `PARAM` (10_state R24, 20_memory R64). -/
def execRdParam (s : State) : Host.Outcome State Fault Refusal := .next (s.reply (s.regVal .param))

/-- A read of `CTRL` (10_state R25, 20_memory R64). -/
def execRdCtrl (s : State) : Host.Outcome State Fault Refusal := .next (s.reply (s.regVal .ctrl))

/-- A read of `STATUS` (10_state R26, 20_memory R64). -/
def execRdStatus (s : State) : Host.Outcome State Fault Refusal := .next (s.reply (s.regVal .status))

/-- A read of `CMD` (10_state R47, 20_memory R64). -/
def execRdCmd (s : State) : Host.Outcome State Fault Refusal := .next (s.reply (s.regVal .cmd))

/-- A read of `TYPE_IN` (10_state R41, 20_memory R64). -/
def execRdTypeIn (s : State) : Host.Outcome State Fault Refusal := .next (s.reply (s.regVal .typeIn))

/-- A read of `IBUF_LEN` (10_state R42, 20_memory R64). -/
def execRdIbufLen (s : State) : Host.Outcome State Fault Refusal := .next (s.reply (s.regVal .ibufLen))

/-- A read of `TAG` (10_state R40, 20_memory R64). -/
def execRdTag (s : State) : Host.Outcome State Fault Refusal := .next (s.reply (s.regVal .tag))

/-- A read of `TAG_FLAGS` (10_state R46, 40_tag_decoder R116, 20_memory R64). -/
def execRdTagFlags (s : State) : Host.Outcome State Fault Refusal := .next (s.reply (s.regVal .tagFlags))

/-- A read of `CH_TYPE` (10_state R37, 20_memory R64). -/
def execRdChType (s : State) : Host.Outcome State Fault Refusal := .next (s.reply (s.regVal .chType))

/-- A read of `CH_FLAGS` (10_state R46, 40_tag_decoder R116, 20_memory R64). -/
def execRdChFlags (s : State) : Host.Outcome State Fault Refusal := .next (s.reply (s.regVal .chFlags))

/-- A read of `CH_LEN` (10_state R38, 20_memory R64). -/
def execRdChLen (s : State) : Host.Outcome State Fault Refusal := .next (s.reply (s.regVal .chLen))

/-- A read of `CH_CRC` (10_state R39, 20_memory R64). -/
def execRdChCrc (s : State) : Host.Outcome State Fault Refusal := .next (s.reply (s.regVal .chCrc))

/-- A read of `OBUF_LEN` (10_state R43, 20_memory R64). -/
def execRdObufLen (s : State) : Host.Outcome State Fault Refusal := .next (s.reply (s.regVal .obufLen))

/-- A read of `CRC_ACC` (10_state R45, 41_crc32 R154, 20_memory R64). -/
def execRdCrcAcc (s : State) : Host.Outcome State Fault Refusal := .next (s.reply (s.regVal .crcAcc))

/-- A read of `CRC_VALUE` (10_state R45, 41_crc32 R154, 20_memory R64). -/
def execRdCrcValue (s : State) : Host.Outcome State Fault Refusal := .next (s.reply (s.regVal .crcValue))

/-- A read at a reserved offset of the register block: answers 0x00000000 and `BUSERR <- 1` (20_memory R64, R66). -/
def execRdRegReserved (_off : Offset) (s : State) : Host.Outcome State Fault Refusal := .next s.badRead

/-! ## Window reads -/

/-- A window read (20_memory R64): the word `v` where the offset is backed, else 0x00000000 and `BUSERR <- 1`. -/
def State.windowRead (s : State) (off : Offset) (size : Nat) (v : Word) : State :=
  if off.toNat < size then s.reply v else s.badRead

/-- A read in the IBUF window (20_memory R64). -/
def execRdIbuf (off : Offset) (s : State) : Host.Outcome State Fault Refusal :=
  .next (s.windowRead off s.ibufMax (s.ibufWord off.toNat))

/-- A read in the CHDATA window (20_memory R64). -/
def execRdChdata (off : Offset) (s : State) : Host.Outcome State Fault Refusal :=
  .next (s.windowRead off s.dataMax (s.chdataWord off.toNat))

/-- A read in the OBUF window (20_memory R64). -/
def execRdObuf (off : Offset) (s : State) : Host.Outcome State Fault Refusal :=
  .next (s.windowRead off s.obufMax (s.obufWord off.toNat))

end Sys2Proof.Machine
end

