-- ==== Sys2Proof/Machine/BusWrite.lean ====
section
/-! DEFINITION. The bus writes (20_memory R63, R65, R66): one meaning per WR row of spec/opcode_table.json. A write that is ignored
changes nothing but the flag it sets. -/

namespace Sys2Proof.Machine

/-! ## Misaligned writes -/

/-- A write with `a[1:0] = 01`: changes nothing except `BUSERR <- 1` (20_memory R63). -/
def execWrMisaligned1 (_a _w : Word) (s : State) : Host.Outcome State Fault Refusal := .next s.flagBuserr

/-- A write with `a[1:0] = 10`: changes nothing except `BUSERR <- 1` (20_memory R63). -/
def execWrMisaligned2 (_a _w : Word) (s : State) : Host.Outcome State Fault Refusal := .next s.flagBuserr

/-- A write with `a[1:0] = 11`: changes nothing except `BUSERR <- 1` (20_memory R63). -/
def execWrMisaligned3 (_a _w : Word) (s : State) : Host.Outcome State Fault Refusal := .next s.flagBuserr

/-! ## Register writes -/

/-- A write to the read-only register `ID`: ignored, `BUSERR <- 1` (20_memory R65, D33). -/
def execWrId (_w : Word) (s : State) : Host.Outcome State Fault Refusal := .next s.flagBuserr

/-- A write to the read-only register `PARAM`: ignored, `BUSERR <- 1` (20_memory R65, D33). -/
def execWrParam (_w : Word) (s : State) : Host.Outcome State Fault Refusal := .next s.flagBuserr

/-- A write to `CTRL`, at any time: `IE <- w[0]` (10_state R25, 20_memory R65). -/
def execWrCtrl (w : Word) (s : State) : Host.Outcome State Fault Refusal := .next { s with ctrlIe := w.getLsbD 0 }

/-- A write to `STATUS`, at any time: write 1 to clear (10_state R26, 20_memory R65). -/
def execWrStatus (w : Word) (s : State) : Host.Outcome State Fault Refusal := .next (s.clearStatus w)

/-- A write to `CMD`: accepts the word, or is blocked while `BUSY = 1` (10_state R47, 20_memory R65). -/
def execWrCmd (w : Word) (s : State) : Host.Outcome State Fault Refusal := .next (s.unlessBusy (s.accept w))

/-- A write to `TYPE_IN`, blocked while `BUSY = 1` (10_state R41, 20_memory R65). -/
def execWrTypeIn (w : Word) (s : State) : Host.Outcome State Fault Refusal := .next (s.unlessBusy { s with typeIn := w })

/-- A write to `IBUF_LEN`, blocked while `BUSY = 1` (10_state R42, 20_memory R65). -/
def execWrIbufLen (w : Word) (s : State) : Host.Outcome State Fault Refusal := .next (s.unlessBusy { s with ibufLen := w })

/-- A write to the read-only register `TAG`: ignored, `BUSERR <- 1` (20_memory R65, D33). -/
def execWrTag (_w : Word) (s : State) : Host.Outcome State Fault Refusal := .next s.flagBuserr

/-- A write to the read-only register `TAG_FLAGS`: ignored, `BUSERR <- 1` (20_memory R65, D33). -/
def execWrTagFlags (_w : Word) (s : State) : Host.Outcome State Fault Refusal := .next s.flagBuserr

/-- A write to the read-only register `CH_TYPE`: ignored, `BUSERR <- 1` (20_memory R65, D33). -/
def execWrChType (_w : Word) (s : State) : Host.Outcome State Fault Refusal := .next s.flagBuserr

/-- A write to the read-only register `CH_FLAGS`: ignored, `BUSERR <- 1` (20_memory R65, D33). -/
def execWrChFlags (_w : Word) (s : State) : Host.Outcome State Fault Refusal := .next s.flagBuserr

/-- A write to the read-only register `CH_LEN`: ignored, `BUSERR <- 1` (20_memory R65, D33). -/
def execWrChLen (_w : Word) (s : State) : Host.Outcome State Fault Refusal := .next s.flagBuserr

/-- A write to the read-only register `CH_CRC`: ignored, `BUSERR <- 1` (20_memory R65, D33). -/
def execWrChCrc (_w : Word) (s : State) : Host.Outcome State Fault Refusal := .next s.flagBuserr

/-- A write to the read-only register `OBUF_LEN`: ignored, `BUSERR <- 1` (20_memory R65, D33). -/
def execWrObufLen (_w : Word) (s : State) : Host.Outcome State Fault Refusal := .next s.flagBuserr

/-- A write to the read-only register `CRC_ACC`: ignored, `BUSERR <- 1` (20_memory R65, D33). -/
def execWrCrcAcc (_w : Word) (s : State) : Host.Outcome State Fault Refusal := .next s.flagBuserr

/-- A write to the read-only register `CRC_VALUE`: ignored, `BUSERR <- 1` (20_memory R65, D33). -/
def execWrCrcValue (_w : Word) (s : State) : Host.Outcome State Fault Refusal := .next s.flagBuserr

/-- A write at a reserved offset of the register block: ignored, `BUSERR <- 1` (20_memory R65, R66). -/
def execWrRegReserved (_off : Offset) (_w : Word) (s : State) : Host.Outcome State Fault Refusal := .next s.flagBuserr

/-! ## Window writes -/

/-- A write in the IBUF window: past the backed size `BUSERR <- 1`, while `BUSY = 1` `WRBUSY <- 1`, else
`IBUF[off .. off+4) <- bytes_be32(w)` (20_memory R65). -/
def execWrIbuf (off : Offset) (w : Word) (s : State) : Host.Outcome State Fault Refusal :=
  .next (if off.toNat < s.ibufMax then s.unlessBusy { s with ibuf := s.ibuf.writeBytes off.toNat (bytesBe32 w) }
    else s.flagBuserr)

/-- A write in the read-only CHDATA window: ignored, `BUSERR <- 1` (20_memory R65, D33). -/
def execWrChdata (_off : Offset) (_w : Word) (s : State) : Host.Outcome State Fault Refusal := .next s.flagBuserr

/-- A write in the read-only OBUF window: ignored, `BUSERR <- 1` (20_memory R65, D33). -/
def execWrObuf (_off : Offset) (_w : Word) (s : State) : Host.Outcome State Fault Refusal := .next s.flagBuserr

end Sys2Proof.Machine
end

