-- ==== Sys2Proof/Machine/Crc.lean ====
section
/-! DEFINITION. The CRC-32/ISO-HDLC function and the commands of the generator (41_crc32). The numbers of R140 and R141 are the spec's
own general knowledge (log 11). -/

namespace Sys2Proof.Machine

/-- One iteration of the bit loop of 41_crc32 R141. -/
def crcBit (c : Word) : Word := if c.getLsbD 0 then (c >>> 1) ^^^ 0xEDB88320#32 else c >>> 1

/-- `n` iterations of the bit loop (41_crc32 R141, R142). -/
def crcBits : Nat → Word → Word
  | 0, c => c
  | n + 1, c => crcBits n (crcBit c)

/-- `crc_step(c, b)` (41_crc32 R141). -/
def crcStep (c : Word) (b : Byte) : Word := crcBits 8 (c ^^^ b.setWidth 32)

/-- `crc_run(c, s)` (41_crc32 R141). -/
def crcRun (c : Word) (s : List Byte) : Word := s.foldl crcStep c

/-- `crc32(s)` (41_crc32 R141). -/
def crc32 (s : List Byte) : Word := crcRun 0xFFFFFFFF#32 s ^^^ 0xFFFFFFFF#32

/-- `T[n]`, the entry of the table of 41_crc32 R142. -/
def crcTable (n : Byte) : Word := crcBits 8 (n.setWidth 32)

/-- The body of `CRC_CLEAR` (41_crc32 R150). -/
def crcClear (s : State) : CmdOutcome := .ok { s with crcAcc := 0xFFFFFFFF }

/-- The body of `CRC_ACCUM` (41_crc32 R152). -/
def crcAccum (s : State) : CmdOutcome :=
  if s.ibufMax < s.ibufLen.toNat then .fail .capacity .none
  else .ok { s with crcAcc := crcRun s.crcAcc (s.ibufBytes s.ibufLen.toNat) }

/-- `CRC_CLEAR` at its `Complete` step (41_crc32 R150, 30_encoding R100). -/
def execCrcClear (s : State) : Host.Outcome State Fault Refusal := .next (s.complete (crcClear s))

/-- `CRC_ACCUM` at its `Complete` step (41_crc32 R152, 30_encoding R100). -/
def execCrcAccum (s : State) : Host.Outcome State Fault Refusal := .next (s.complete (crcAccum s))

end Sys2Proof.Machine
end

