-- ==== Sys2Proof/Machine/Utf8.lean ====
section
/-! DEFINITION. The well-formed UTF-8 check (42_chunk_framer R181). The table is the spec's own general knowledge (log 11). -/

namespace Sys2Proof.Machine

/-- A range of byte values, both ends included. -/
abbrev ByteRange := Byte × Byte

/-- The table of 42_chunk_framer R181: each form as the ranges of its bytes, first byte first. -/
def utf8Forms : List (List ByteRange) :=
  [[(0x00, 0x7F)],
   [(0xC2, 0xDF), (0x80, 0xBF)],
   [(0xE0, 0xE0), (0xA0, 0xBF), (0x80, 0xBF)],
   [(0xE1, 0xEC), (0x80, 0xBF), (0x80, 0xBF)],
   [(0xED, 0xED), (0x80, 0x9F), (0x80, 0xBF)],
   [(0xEE, 0xEF), (0x80, 0xBF), (0x80, 0xBF)],
   [(0xF0, 0xF0), (0x90, 0xBF), (0x80, 0xBF), (0x80, 0xBF)],
   [(0xF1, 0xF3), (0x80, 0xBF), (0x80, 0xBF), (0x80, 0xBF)],
   [(0xF4, 0xF4), (0x80, 0x8F), (0x80, 0xBF), (0x80, 0xBF)]]

/-- The byte `b` lies in the range `r`. -/
def inRange (r : ByteRange) (b : Byte) : Bool := decide (r.1 ≤ b) && decide (b ≤ r.2)

/-- What is left of `s` after one sequence of the form `f`, if `s` starts with one. -/
def stripForm : List ByteRange → List Byte → Option (List Byte)
  | [], s => some s
  | _ :: _, [] => none
  | r :: f, b :: s => if inRange r b then stripForm f s else none

/-- `s` splits, from its start, into at most `n` sequences of the forms and nothing else. -/
def utf8Split : Nat → List Byte → Bool
  | _, [] => true
  | 0, _ :: _ => false
  | n + 1, b :: s =>
    match utf8Forms.findSome? (fun f => stripForm f (b :: s)) with
    | some rest => utf8Split n rest
    | none => false

/-- `utf8_ok(s)` (42_chunk_framer R181). Each sequence has a byte at least, so `|s|` sequences are enough. -/
def utf8Ok (s : List Byte) : Bool := utf8Split s.length s

end Sys2Proof.Machine
end

