-- ==== Sys2Proof/Machine/Chunk.lean ====
section
/-! DEFINITION. The framing functions and the chunk commands (42_chunk_framer). -/

namespace Sys2Proof.Machine

/-! ## Framing -/

/-- `frame(ty, d, c)` (42_chunk_framer R162, R160). -/
def frame (ty : Word) (d : List Byte) (c : Word) : List Byte :=
  bytesBe32 (BitVec.ofNat 32 d.length) ++ bytesBe32 ty ++ d ++ bytesBe32 c

/-- What `deframe` answers (42_chunk_framer R163). -/
inductive Deframed where
  | fail (e : Err) (c : Cause)
  | ok (ty : Word) (len : Word) (data : List Byte) (crc : Word)
  deriving DecidableEq, Repr

/-- `deframe(s)` (42_chunk_framer R163): too short, then the strict length check (D8, 90 C2), then the CRC. -/
def deframe (s : List Byte) : Deframed :=
  let n := s.length
  if n < 12 then .fail .format .frameTooShort
  else if (be32 (slice s 0 4)).toNat ≠ n - 12 then .fail .format .lengthMismatch
  else if crc32 (slice s 4 8 ++ slice s 8 (n - 4)) ≠ be32 (slice s (n - 4) n) then .fail .crcMismatch .none
  else .ok (be32 (slice s 4 8)) (be32 (slice s 0 4)) (slice s 8 (n - 4)) (be32 (slice s (n - 4) n))

/-! ## Command bodies -/

/-- The chunk register set is replaced as a whole (10_state R35): CHDATA bytes past the new length keep their old contents
(20_memory R74). -/
def State.setChunk (s : State) (ty len : Word) (d : List Byte) (crc : Word) : State :=
  { s with chValid := true, chType := ty, chLen := len, chCrc := crc, chdata := s.chdata.writeBytes 0 d }

/-- The body of `CHUNK_NEW` (42_chunk_framer R164). -/
def chunkNew (s : State) : CmdOutcome :=
  if s.dataMax < s.ibufLen.toNat then .fail .capacity .none
  else
    .ok (s.setChunk s.tag s.ibufLen (s.ibufBytes s.ibufLen.toNat)
      (crc32 (bytesBe32 s.tag ++ s.ibufBytes s.ibufLen.toNat)))

/-- The body of `CHUNK_DECODE` (42_chunk_framer R170). -/
def chunkDecode (s : State) : CmdOutcome :=
  if s.ibufMax < s.ibufLen.toNat then .fail .capacity .none
  else
    match deframe (s.ibufBytes s.ibufLen.toNat) with
    | .fail e c => .fail e c
    | .ok ty len d crc => .ok (s.setChunk ty len d crc)

/-- The body of `CHUNK_ENCODE` (42_chunk_framer R166): the stored `CH_CRC` is written, not recomputed. The sum is 32 bits wide (log 12). -/
def chunkEncode (s : State) : CmdOutcome :=
  if s.chValid then
    .ok { s with
      obuf    := s.obuf.writeBytes 0 (frame s.chType (s.chdataBytes s.chLen.toNat) s.chCrc)
      obufLen := 12 + s.chLen }
  else .fail .noChunk .none

/-- The body of `DATA_AS_TEXT` (42_chunk_framer R180): a verdict only. -/
def dataAsText (s : State) : CmdOutcome :=
  if s.chValid then
    if utf8Ok (s.chdataBytes s.chLen.toNat) then .ok s else .fail .encoding .none
  else .fail .noChunk .none

/-- The body of `CHUNK_DISCARD` (42_chunk_framer R178): CHDATA is not erased. -/
def chunkDiscard (s : State) : CmdOutcome := .ok { s with chValid := false, chType := 0, chLen := 0, chCrc := 0 }

/-! ## Meanings -/

/-- `CHUNK_NEW` at its `Complete` step (42_chunk_framer R164, 30_encoding R100). -/
def execChunkNew (s : State) : Host.Outcome State Fault Refusal := .next (s.complete (chunkNew s))

/-- `CHUNK_DECODE` at its `Complete` step (42_chunk_framer R170, 30_encoding R100). -/
def execChunkDecode (s : State) : Host.Outcome State Fault Refusal := .next (s.complete (chunkDecode s))

/-- `CHUNK_ENCODE` at its `Complete` step (42_chunk_framer R166, 30_encoding R100). -/
def execChunkEncode (s : State) : Host.Outcome State Fault Refusal := .next (s.complete (chunkEncode s))

/-- `DATA_AS_TEXT` at its `Complete` step (42_chunk_framer R180, 30_encoding R100). -/
def execDataAsText (s : State) : Host.Outcome State Fault Refusal := .next (s.complete (dataAsText s))

/-- `CHUNK_DISCARD` at its `Complete` step (42_chunk_framer R178, 30_encoding R100). -/
def execChunkDiscard (s : State) : Host.Outcome State Fault Refusal := .next (s.complete (chunkDiscard s))

end Sys2Proof.Machine
end

