-- ==== Sys2Proof/Machine/Tag.lean ====
section
/-! DEFINITION. The commands of the tag decoder (40_tag_decoder) and the illegal command word (30_encoding R95). -/

namespace Sys2Proof.Machine

/-- The body of `TYPE_FROM_BYTES` (40_tag_decoder R120). -/
def typeFromBytes (s : State) : CmdOutcome := .ok { s with tag := s.typeIn }

/-- The body of `TYPE_FROM_TEXT` (40_tag_decoder R122): the length first, then the letters. -/
def typeFromText (s : State) : CmdOutcome :=
  if s.ibufLen.toNat = 4 then
    if alpha (s.ibufBytes 4) then .ok { s with tag := be32 (s.ibufBytes 4) }
    else .fail .format .textNotAlpha
  else .fail .format .textLength

/-- `TYPE_FROM_BYTES` at its `Complete` step (40_tag_decoder R120, 30_encoding R100). -/
def execTypeFromBytes (s : State) : Host.Outcome State Fault Refusal := .next (s.complete (typeFromBytes s))

/-- `TYPE_FROM_TEXT` at its `Complete` step (40_tag_decoder R122, 30_encoding R100). -/
def execTypeFromText (s : State) : Host.Outcome State Fault Refusal := .next (s.complete (typeFromText s))

/-- An illegal command word at its `Complete` step: only `raise ILLEGAL_CMD` (30_encoding R95, R100). The word itself plays no part. -/
def execIllegalCmd (_w : Word) (s : State) : Host.Outcome State Fault Refusal :=
  .next (s.complete (.fail .illegalCmd .none))

end Sys2Proof.Machine
end

