-- ==== Sys2Proof/Machine/Dispatch.lean ====
section
/-! DEFINITION. One arm per constructor of `Instr`, each a direct call of its meaning. -/

namespace Sys2Proof.Machine

/-- What instruction `i` does in state `s`. A command word's meaning is its `Complete` step, which `step` runs only while `BUSY = 1`
(30_encoding R100); a transaction's meaning is the transaction itself. -/
def exec (i : Instr) (s : State) : Host.Outcome State Fault Refusal :=
  match i with
  | .typeFromBytes => Sys2Proof.Machine.execTypeFromBytes s
  | .typeFromText => Sys2Proof.Machine.execTypeFromText s
  | .chunkNew => Sys2Proof.Machine.execChunkNew s
  | .chunkDecode => Sys2Proof.Machine.execChunkDecode s
  | .chunkEncode => Sys2Proof.Machine.execChunkEncode s
  | .dataAsText => Sys2Proof.Machine.execDataAsText s
  | .chunkDiscard => Sys2Proof.Machine.execChunkDiscard s
  | .crcClear => Sys2Proof.Machine.execCrcClear s
  | .crcAccum => Sys2Proof.Machine.execCrcAccum s
  | .illegalCmd w => Sys2Proof.Machine.execIllegalCmd w s
  | .rdMisaligned1 a => Sys2Proof.Machine.execRdMisaligned1 a s
  | .rdMisaligned2 a => Sys2Proof.Machine.execRdMisaligned2 a s
  | .rdMisaligned3 a => Sys2Proof.Machine.execRdMisaligned3 a s
  | .wrMisaligned1 a w => Sys2Proof.Machine.execWrMisaligned1 a w s
  | .wrMisaligned2 a w => Sys2Proof.Machine.execWrMisaligned2 a w s
  | .wrMisaligned3 a w => Sys2Proof.Machine.execWrMisaligned3 a w s
  | .rdId => Sys2Proof.Machine.execRdId s
  | .wrId w => Sys2Proof.Machine.execWrId w s
  | .rdParam => Sys2Proof.Machine.execRdParam s
  | .wrParam w => Sys2Proof.Machine.execWrParam w s
  | .rdCtrl => Sys2Proof.Machine.execRdCtrl s
  | .wrCtrl w => Sys2Proof.Machine.execWrCtrl w s
  | .rdStatus => Sys2Proof.Machine.execRdStatus s
  | .wrStatus w => Sys2Proof.Machine.execWrStatus w s
  | .rdCmd => Sys2Proof.Machine.execRdCmd s
  | .wrCmd w => Sys2Proof.Machine.execWrCmd w s
  | .rdTypeIn => Sys2Proof.Machine.execRdTypeIn s
  | .wrTypeIn w => Sys2Proof.Machine.execWrTypeIn w s
  | .rdIbufLen => Sys2Proof.Machine.execRdIbufLen s
  | .wrIbufLen w => Sys2Proof.Machine.execWrIbufLen w s
  | .rdTag => Sys2Proof.Machine.execRdTag s
  | .wrTag w => Sys2Proof.Machine.execWrTag w s
  | .rdTagFlags => Sys2Proof.Machine.execRdTagFlags s
  | .wrTagFlags w => Sys2Proof.Machine.execWrTagFlags w s
  | .rdChType => Sys2Proof.Machine.execRdChType s
  | .wrChType w => Sys2Proof.Machine.execWrChType w s
  | .rdChFlags => Sys2Proof.Machine.execRdChFlags s
  | .wrChFlags w => Sys2Proof.Machine.execWrChFlags w s
  | .rdChLen => Sys2Proof.Machine.execRdChLen s
  | .wrChLen w => Sys2Proof.Machine.execWrChLen w s
  | .rdChCrc => Sys2Proof.Machine.execRdChCrc s
  | .wrChCrc w => Sys2Proof.Machine.execWrChCrc w s
  | .rdObufLen => Sys2Proof.Machine.execRdObufLen s
  | .wrObufLen w => Sys2Proof.Machine.execWrObufLen w s
  | .rdCrcAcc => Sys2Proof.Machine.execRdCrcAcc s
  | .wrCrcAcc w => Sys2Proof.Machine.execWrCrcAcc w s
  | .rdCrcValue => Sys2Proof.Machine.execRdCrcValue s
  | .wrCrcValue w => Sys2Proof.Machine.execWrCrcValue w s
  | .rdRegReserved off => Sys2Proof.Machine.execRdRegReserved off s
  | .wrRegReserved off w => Sys2Proof.Machine.execWrRegReserved off w s
  | .rdIbuf off => Sys2Proof.Machine.execRdIbuf off s
  | .wrIbuf off w => Sys2Proof.Machine.execWrIbuf off w s
  | .rdChdata off => Sys2Proof.Machine.execRdChdata off s
  | .wrChdata off w => Sys2Proof.Machine.execWrChdata off w s
  | .rdObuf off => Sys2Proof.Machine.execRdObuf off s
  | .wrObuf off w => Sys2Proof.Machine.execWrObuf off w s

end Sys2Proof.Machine
end

