-- ==== Sys2Proof/Decode.lean ====
section
/-! DEFINITION. The decoder of both domains (30_encoding R93-R96), total on every command word and on every transaction, the numbering
of spec/opcode_table.json over it, and the encoder. -/

namespace Sys2Proof

/-! ## Fields -/

/-- `a[1:0]`, the alignment bits of an address (20_memory R63). -/
def alignBits (a : Word) : BitVec 2 := a.extractLsb' 0 2

/-- `a[31:30]`, the region of an address (20_memory R61). -/
def regionBits (a : Word) : BitVec 2 := a.extractLsb' 30 2

/-- `a[29:0]`, the offset within the region (20_memory R61). -/
def offsetBits (a : Word) : Offset := a.extractLsb' 0 30

/-- The address of offset `off` of region `r` (20_memory R61). -/
def addressOf (r : BitVec 2) (off : Offset) : Word := r ++ off

/-- `word[7:0]`, the `OPCODE` field of a command word (30_encoding R90). -/
def opcodeBits (w : Word) : BitVec 8 := w.extractLsb' 0 8

/-- `word[31:8]`, the `RSVD` field of a command word (30_encoding R90). -/
def rsvdBits (w : Word) : BitVec 24 := w.extractLsb' 8 24

/-! ## The register map -/

/-- The register map of 10_state R22. -/
def regMap : List (Offset × Reg) :=
  [(0x00#30, .id), (0x04#30, .param), (0x08#30, .ctrl), (0x0C#30, .status),
   (0x10#30, .cmd), (0x14#30, .typeIn), (0x18#30, .ibufLen), (0x1C#30, .tag),
   (0x20#30, .tagFlags), (0x24#30, .chType), (0x28#30, .chFlags), (0x2C#30, .chLen),
   (0x30#30, .chCrc), (0x34#30, .obufLen), (0x38#30, .crcAcc), (0x3C#30, .crcValue)]

/-- The register at an offset of the register block, if there is one (10_state R22). -/
def regAt (off : Offset) : Option Reg := regMap.lookup off

/-- The offset of a register (10_state R22). -/
def Reg.offset : Reg → Offset
  | .id => 0x00
  | .param => 0x04
  | .ctrl => 0x08
  | .status => 0x0C
  | .cmd => 0x10
  | .typeIn => 0x14
  | .ibufLen => 0x18
  | .tag => 0x1C
  | .tagFlags => 0x20
  | .chType => 0x24
  | .chFlags => 0x28
  | .chLen => 0x2C
  | .chCrc => 0x30
  | .obufLen => 0x34
  | .crcAcc => 0x38
  | .crcValue => 0x3C

/-- The row that reads a register (30_encoding R96). -/
def Reg.readRow : Reg → Instr
  | .id => .rdId
  | .param => .rdParam
  | .ctrl => .rdCtrl
  | .status => .rdStatus
  | .cmd => .rdCmd
  | .typeIn => .rdTypeIn
  | .ibufLen => .rdIbufLen
  | .tag => .rdTag
  | .tagFlags => .rdTagFlags
  | .chType => .rdChType
  | .chFlags => .rdChFlags
  | .chLen => .rdChLen
  | .chCrc => .rdChCrc
  | .obufLen => .rdObufLen
  | .crcAcc => .rdCrcAcc
  | .crcValue => .rdCrcValue

/-- The row that writes `w` to a register (30_encoding R96). -/
def Reg.writeRow (w : Word) : Reg → Instr
  | .id => .wrId w
  | .param => .wrParam w
  | .ctrl => .wrCtrl w
  | .status => .wrStatus w
  | .cmd => .wrCmd w
  | .typeIn => .wrTypeIn w
  | .ibufLen => .wrIbufLen w
  | .tag => .wrTag w
  | .tagFlags => .wrTagFlags w
  | .chType => .wrChType w
  | .chFlags => .wrChFlags w
  | .chLen => .wrChLen w
  | .chCrc => .wrChCrc w
  | .obufLen => .wrObufLen w
  | .crcAcc => .wrCrcAcc w
  | .crcValue => .wrCrcValue w

/-! ## The decoder -/

/-- The command that a word written to `CMD` selects (30_encoding R93-R95). -/
def decodeCmd (w : Word) : Instr :=
  if rsvdBits w = 0 then
    match (opcodeBits w).toNat with
    | 0x01 => .typeFromBytes
    | 0x02 => .typeFromText
    | 0x03 => .chunkNew
    | 0x04 => .chunkDecode
    | 0x05 => .chunkEncode
    | 0x06 => .dataAsText
    | 0x07 => .chunkDiscard
    | 0x08 => .crcClear
    | 0x09 => .crcAccum
    | _ => .illegalCmd w
  else .illegalCmd w

/-- The row of a bus read at address `a`: alignment first, then the region, then the register map (30_encoding R96). -/
def decodeRead (a : Word) : Instr :=
  if alignBits a = 1 then .rdMisaligned1 a
  else if alignBits a = 2 then .rdMisaligned2 a
  else if alignBits a = 3 then .rdMisaligned3 a
  else if regionBits a = 0 then
      match regAt (offsetBits a) with
      | some r => r.readRow
      | none => .rdRegReserved (offsetBits a)
  else if regionBits a = 1 then .rdIbuf (offsetBits a)
  else if regionBits a = 2 then .rdChdata (offsetBits a)
  else .rdObuf (offsetBits a)

/-- The row of a bus write of `w` at address `a` (30_encoding R96). -/
def decodeWrite (a w : Word) : Instr :=
  if alignBits a = 1 then .wrMisaligned1 a w
  else if alignBits a = 2 then .wrMisaligned2 a w
  else if alignBits a = 3 then .wrMisaligned3 a w
  else if regionBits a = 0 then
      match regAt (offsetBits a) with
      | some r => r.writeRow w
      | none => .wrRegReserved (offsetBits a) w
  else if regionBits a = 1 then .wrIbuf (offsetBits a) w
  else if regionBits a = 2 then .wrChdata (offsetBits a) w
  else .wrObuf (offsetBits a) w

/-- The row of a bus transaction (30_encoding R96). -/
def decodeBus (t : Transaction) : Instr :=
  if t.we then decodeWrite t.addr t.data else decodeRead t.addr

/-- The decoder, over both domains. -/
def decode : Form → Instr
  | .cmd w => decodeCmd w
  | .bus t => decodeBus t

/-! ## The numbering of spec/opcode_table.json -/

/-- Why a number is no instruction: it has bits its domain does not have. -/
inductive DecodeError where
  /-- A command word has 32 bits (30_encoding R91); the number has more. -/
  | commandWordTooWide
  /-- A bus key has 33 bits, `we << 32 | a` (30_encoding R96); bits 39 to 33, which fill its last byte, are not all 0,
  or the number goes on past the data word. -/
  | busKeyTooWide
  deriving DecidableEq, Repr

/-- The transaction numbered `n`: `a` is bits 31 to 0, `we` is bit 32 (30_encoding R96), and the data word follows the key's five
bytes as bits 71 to 40 (log 5; the table gives the data word no bits, so it is 0 there). -/
def transactionOfNat (n : Nat) : Transaction :=
  ⟨n.testBit 32, BitVec.ofNat 32 n, BitVec.ofNat 32 (n >>> 40)⟩

/-- What the table's number `n` of `nbits` bits stands for, or why it stands for nothing: rows of format CMD have 32 bits, rows of
format BUS more. -/
def formOfNat (nbits n : Nat) : Except DecodeError Form :=
  if nbits ≤ 32 then
    if n < 2 ^ 32 then .ok (.cmd (BitVec.ofNat 32 n)) else .error .commandWordTooWide
  else if (n >>> 33) % 2 ^ 7 = 0 ∧ n < 2 ^ 72 then .ok (.bus (transactionOfNat n)) else .error .busKeyTooWide

/-- The instruction the decoder reads from the bits `w`, numbered as spec/opcode_table.json numbers them. -/
def decodeTableWord (nbits w : Nat) : Option Instr :=
  match formOfNat nbits w with
  | .ok f => some (decode f)
  | .error _ => none

/-! ## The encoder -/

/-- The command word or transaction of an instruction (30_encoding R93, R96, 20_memory R61, 10_state R22). A read carries the data
word 0, which nothing uses. -/
def encode : Instr → Form
  | .typeFromBytes => .cmd 0x00000001
  | .typeFromText => .cmd 0x00000002
  | .chunkNew => .cmd 0x00000003
  | .chunkDecode => .cmd 0x00000004
  | .chunkEncode => .cmd 0x00000005
  | .dataAsText => .cmd 0x00000006
  | .chunkDiscard => .cmd 0x00000007
  | .crcClear => .cmd 0x00000008
  | .crcAccum => .cmd 0x00000009
  | .illegalCmd w => .cmd w
  | .rdMisaligned1 a => .bus ⟨false, a, 0⟩
  | .rdMisaligned2 a => .bus ⟨false, a, 0⟩
  | .rdMisaligned3 a => .bus ⟨false, a, 0⟩
  | .wrMisaligned1 a w => .bus ⟨true, a, w⟩
  | .wrMisaligned2 a w => .bus ⟨true, a, w⟩
  | .wrMisaligned3 a w => .bus ⟨true, a, w⟩
  | .rdId => .bus ⟨false, addressOf 0 (Reg.offset .id), 0⟩
  | .wrId w => .bus ⟨true, addressOf 0 (Reg.offset .id), w⟩
  | .rdParam => .bus ⟨false, addressOf 0 (Reg.offset .param), 0⟩
  | .wrParam w => .bus ⟨true, addressOf 0 (Reg.offset .param), w⟩
  | .rdCtrl => .bus ⟨false, addressOf 0 (Reg.offset .ctrl), 0⟩
  | .wrCtrl w => .bus ⟨true, addressOf 0 (Reg.offset .ctrl), w⟩
  | .rdStatus => .bus ⟨false, addressOf 0 (Reg.offset .status), 0⟩
  | .wrStatus w => .bus ⟨true, addressOf 0 (Reg.offset .status), w⟩
  | .rdCmd => .bus ⟨false, addressOf 0 (Reg.offset .cmd), 0⟩
  | .wrCmd w => .bus ⟨true, addressOf 0 (Reg.offset .cmd), w⟩
  | .rdTypeIn => .bus ⟨false, addressOf 0 (Reg.offset .typeIn), 0⟩
  | .wrTypeIn w => .bus ⟨true, addressOf 0 (Reg.offset .typeIn), w⟩
  | .rdIbufLen => .bus ⟨false, addressOf 0 (Reg.offset .ibufLen), 0⟩
  | .wrIbufLen w => .bus ⟨true, addressOf 0 (Reg.offset .ibufLen), w⟩
  | .rdTag => .bus ⟨false, addressOf 0 (Reg.offset .tag), 0⟩
  | .wrTag w => .bus ⟨true, addressOf 0 (Reg.offset .tag), w⟩
  | .rdTagFlags => .bus ⟨false, addressOf 0 (Reg.offset .tagFlags), 0⟩
  | .wrTagFlags w => .bus ⟨true, addressOf 0 (Reg.offset .tagFlags), w⟩
  | .rdChType => .bus ⟨false, addressOf 0 (Reg.offset .chType), 0⟩
  | .wrChType w => .bus ⟨true, addressOf 0 (Reg.offset .chType), w⟩
  | .rdChFlags => .bus ⟨false, addressOf 0 (Reg.offset .chFlags), 0⟩
  | .wrChFlags w => .bus ⟨true, addressOf 0 (Reg.offset .chFlags), w⟩
  | .rdChLen => .bus ⟨false, addressOf 0 (Reg.offset .chLen), 0⟩
  | .wrChLen w => .bus ⟨true, addressOf 0 (Reg.offset .chLen), w⟩
  | .rdChCrc => .bus ⟨false, addressOf 0 (Reg.offset .chCrc), 0⟩
  | .wrChCrc w => .bus ⟨true, addressOf 0 (Reg.offset .chCrc), w⟩
  | .rdObufLen => .bus ⟨false, addressOf 0 (Reg.offset .obufLen), 0⟩
  | .wrObufLen w => .bus ⟨true, addressOf 0 (Reg.offset .obufLen), w⟩
  | .rdCrcAcc => .bus ⟨false, addressOf 0 (Reg.offset .crcAcc), 0⟩
  | .wrCrcAcc w => .bus ⟨true, addressOf 0 (Reg.offset .crcAcc), w⟩
  | .rdCrcValue => .bus ⟨false, addressOf 0 (Reg.offset .crcValue), 0⟩
  | .wrCrcValue w => .bus ⟨true, addressOf 0 (Reg.offset .crcValue), w⟩
  | .rdRegReserved off => .bus ⟨false, addressOf 0 off, 0⟩
  | .wrRegReserved off w => .bus ⟨true, addressOf 0 off, w⟩
  | .rdIbuf off => .bus ⟨false, addressOf 1 off, 0⟩
  | .wrIbuf off w => .bus ⟨true, addressOf 1 off, w⟩
  | .rdChdata off => .bus ⟨false, addressOf 2 off, 0⟩
  | .wrChdata off w => .bus ⟨true, addressOf 2 off, w⟩
  | .rdObuf off => .bus ⟨false, addressOf 3 off, 0⟩
  | .wrObuf off w => .bus ⟨true, addressOf 3 off, w⟩

/-- The key of spec/opcode_table.json: a command word itself, or `we << 32 | a` of a transaction (30_encoding R96). -/
def Form.tableKey : Form → BitVec 33
  | .cmd w => w.setWidth 33
  | .bus t => BitVec.ofBool t.we ++ t.addr

/-- The row of spec/opcode_table.json that an instruction stands for: its match and its mask over the key. -/
def Instr.tableRow : Instr → BitVec 33 × BitVec 33
  | .typeFromBytes => (0x00000001, 0xFFFFFFFF)
  | .typeFromText => (0x00000002, 0xFFFFFFFF)
  | .chunkNew => (0x00000003, 0xFFFFFFFF)
  | .chunkDecode => (0x00000004, 0xFFFFFFFF)
  | .chunkEncode => (0x00000005, 0xFFFFFFFF)
  | .dataAsText => (0x00000006, 0xFFFFFFFF)
  | .chunkDiscard => (0x00000007, 0xFFFFFFFF)
  | .crcClear => (0x00000008, 0xFFFFFFFF)
  | .crcAccum => (0x00000009, 0xFFFFFFFF)
  | .illegalCmd _ => (0x00000000, 0x00000000)
  | .rdMisaligned1 _ => (0x000000001, 0x100000003)
  | .rdMisaligned2 _ => (0x000000002, 0x100000003)
  | .rdMisaligned3 _ => (0x000000003, 0x100000003)
  | .wrMisaligned1 _ _ => (0x100000001, 0x100000003)
  | .wrMisaligned2 _ _ => (0x100000002, 0x100000003)
  | .wrMisaligned3 _ _ => (0x100000003, 0x100000003)
  | .rdId => (0x000000000, 0x1FFFFFFFF)
  | .wrId _ => (0x100000000, 0x1FFFFFFFF)
  | .rdParam => (0x000000004, 0x1FFFFFFFF)
  | .wrParam _ => (0x100000004, 0x1FFFFFFFF)
  | .rdCtrl => (0x000000008, 0x1FFFFFFFF)
  | .wrCtrl _ => (0x100000008, 0x1FFFFFFFF)
  | .rdStatus => (0x00000000C, 0x1FFFFFFFF)
  | .wrStatus _ => (0x10000000C, 0x1FFFFFFFF)
  | .rdCmd => (0x000000010, 0x1FFFFFFFF)
  | .wrCmd _ => (0x100000010, 0x1FFFFFFFF)
  | .rdTypeIn => (0x000000014, 0x1FFFFFFFF)
  | .wrTypeIn _ => (0x100000014, 0x1FFFFFFFF)
  | .rdIbufLen => (0x000000018, 0x1FFFFFFFF)
  | .wrIbufLen _ => (0x100000018, 0x1FFFFFFFF)
  | .rdTag => (0x00000001C, 0x1FFFFFFFF)
  | .wrTag _ => (0x10000001C, 0x1FFFFFFFF)
  | .rdTagFlags => (0x000000020, 0x1FFFFFFFF)
  | .wrTagFlags _ => (0x100000020, 0x1FFFFFFFF)
  | .rdChType => (0x000000024, 0x1FFFFFFFF)
  | .wrChType _ => (0x100000024, 0x1FFFFFFFF)
  | .rdChFlags => (0x000000028, 0x1FFFFFFFF)
  | .wrChFlags _ => (0x100000028, 0x1FFFFFFFF)
  | .rdChLen => (0x00000002C, 0x1FFFFFFFF)
  | .wrChLen _ => (0x10000002C, 0x1FFFFFFFF)
  | .rdChCrc => (0x000000030, 0x1FFFFFFFF)
  | .wrChCrc _ => (0x100000030, 0x1FFFFFFFF)
  | .rdObufLen => (0x000000034, 0x1FFFFFFFF)
  | .wrObufLen _ => (0x100000034, 0x1FFFFFFFF)
  | .rdCrcAcc => (0x000000038, 0x1FFFFFFFF)
  | .wrCrcAcc _ => (0x100000038, 0x1FFFFFFFF)
  | .rdCrcValue => (0x00000003C, 0x1FFFFFFFF)
  | .wrCrcValue _ => (0x10000003C, 0x1FFFFFFFF)
  | .rdRegReserved _ => (0x000000000, 0x1C0000003)
  | .wrRegReserved _ _ => (0x100000000, 0x1C0000003)
  | .rdIbuf _ => (0x040000000, 0x1C0000003)
  | .wrIbuf _ _ => (0x140000000, 0x1C0000003)
  | .rdChdata _ => (0x080000000, 0x1C0000003)
  | .wrChdata _ _ => (0x180000000, 0x1C0000003)
  | .rdObuf _ => (0x0C0000000, 0x1C0000003)
  | .wrObuf _ _ => (0x1C0000000, 0x1C0000003)

end Sys2Proof
end

