-- ==== Sys2Proof/Machine/Fetch.lean ====
section
/-! DEFINITION. What `step` runs next: the sequencing of 20_memory R68, R69 and 30_encoding R100 over the schedule (log 5). -/

namespace Sys2Proof.Machine

/-- The instruction the next step runs, if it runs one, and the state it runs in: the first move of the schedule is taken.
- A host move runs its transaction, decoded (30_encoding R96).
- A sequencer move runs the command in flight, decoded from `PEND`, if `BUSY = 1` (30_encoding R100), and passes otherwise (log 8).
- `rst` resets (70_reset_and_hazards R231, R232).
- With no move left, the command in flight completes (weak fairness, 20_memory R68), and an idle block waits
  (70_reset_and_hazards R233). -/
def State.fetch (s : State) : Option Instr × State :=
  match s.sched with
  | .host t :: _ => (some (decodeBus t), s.dropMove)
  | .rst :: _ => (none, s.dropMove.doReset)
  | .seq :: _ => (if s.busy then some (decodeCmd s.pend) else none, s.dropMove)
  | [] => (if s.busy then some (decodeCmd s.pend) else none, s)

/-- `s` with `m` as its next move. -/
def State.pushMove (s : State) (m : Move) : State := { s with sched := m :: s.sched }

/-- `s` with the form `f` placed so that the very next step runs it: a transaction is the host's next move; a command word is accepted
(10_state R47), so that it is in flight, and the sequencer moves next (log 5). -/
def State.placeForm (s : State) : Form → State
  | .bus t => s.pushMove (.host t)
  | .cmd w => (s.accept w).pushMove .seq

/-- `s` with the instruction that spec/opcode_table.json numbers `w` placed so that the very next step runs it. A number that stands
for no instruction places nothing. -/
def State.placeTableWord (s : State) (nbits w : Nat) : State :=
  match formOfNat nbits w with
  | .ok f => s.placeForm f
  | .error _ => s

end Sys2Proof.Machine
end

