-- ==== Sys2Proof/Machine/Step.lean ====
section
/-! DEFINITION. One step of the machine: the next move of the total order of 20_memory R68. -/

namespace Sys2Proof.Machine

/-- One step: run the instruction that `State.fetch` gives, or, where it gives none, only take the move. -/
def step (s : State) : Host.Outcome State Fault Refusal :=
  match s.fetch with
  | (some i, t) => exec i t
  | (none, t) => .next t

/-- `s` with the instruction numbered `w` stored where `step` fetches its next instruction. -/
def State.withFetchWord (s : State) (nbits w : Nat) : State := s.placeTableWord nbits w

end Sys2Proof.Machine
end

