-- ==== Sys2Proof/Safety.lean ====
section
/-! DEFINITION. What claims about PNGC-CORE are stated in: the invariants of its state, the kinds of step, the accesses the spec calls
bad or blocked, and the byte-level vocabulary of frames, tampering and UTF-8. -/

namespace Sys2Proof

/-- The rows of format CMD. -/
def Instr.isCommand : Instr → Bool
  | .typeFromBytes | .typeFromText | .chunkNew | .chunkDecode | .chunkEncode => true
  | .dataAsText | .chunkDiscard | .crcClear | .crcAccum | .illegalCmd _ => true
  | .rdMisaligned1 _ | .rdMisaligned2 _ | .rdMisaligned3 _ => false
  | .wrMisaligned1 _ _ | .wrMisaligned2 _ _ | .wrMisaligned3 _ _ => false
  | .rdId | .rdParam | .rdCtrl | .rdStatus | .rdCmd | .rdTypeIn | .rdIbufLen | .rdTag => false
  | .rdTagFlags | .rdChType | .rdChFlags | .rdChLen | .rdChCrc | .rdObufLen | .rdCrcAcc | .rdCrcValue => false
  | .wrId _ | .wrParam _ | .wrCtrl _ | .wrStatus _ | .wrCmd _ | .wrTypeIn _ | .wrIbufLen _ | .wrTag _ => false
  | .wrTagFlags _ | .wrChType _ | .wrChFlags _ | .wrChLen _ | .wrChCrc _ | .wrObufLen _ | .wrCrcAcc _ | .wrCrcValue _ => false
  | .rdRegReserved _ | .wrRegReserved _ _ => false
  | .rdIbuf _ | .wrIbuf _ _ | .rdChdata _ | .wrChdata _ _ | .rdObuf _ | .wrObuf _ _ => false

end Sys2Proof

namespace Sys2Proof.Machine

/-! ## Invariants -/

/-- The three storages are in canonical form and list only backed indices (20_memory R60). -/
structure State.MemoryOk (s : State) : Prop where
  ibuf_wf       : s.ibuf.wf = true
  chdata_wf     : s.chdata.wf = true
  obuf_wf       : s.obuf.wf = true
  ibuf_backed   : ∀ c ∈ s.ibuf, c.1 < s.ibufMax
  chdata_backed : ∀ c ∈ s.chdata, c.1 < s.dataMax
  obuf_backed   : ∀ c ∈ s.obuf, c.1 < s.obufMax

/-- The no-chunk invariant of 10_state R35. -/
def State.NoChunkOk (s : State) : Prop := s.chValid = false → s.chType = 0 ∧ s.chLen = 0 ∧ s.chCrc = 0

/-- The chunk invariant of 10_state R36: the length fits and the CRC is that of the type bytes and the `CH_LEN` data bytes. -/
def State.ChunkOk (s : State) : Prop :=
  s.chValid = true → s.chLen.toNat ≤ s.dataMax ∧
    s.chCrc = crc32 (bytesBe32 s.chType ++ s.chdataBytes s.chLen.toNat)

/-- The frame in OBUF fits it (20_memory R76). -/
def State.ObufFits (s : State) : Prop := s.obufLen.toNat ≤ s.obufMax

/-- Every byte of CHDATA and OBUF that a read can show has been written since reset (20_memory R77). -/
def State.VisibleWritten (s : State) : Prop :=
  (∀ i, i < s.chLen.toNat → (s.chdata.read? i).isSome = true) ∧
  (∀ i, i < s.obufLen.toNat → (s.obuf.read? i).isSome = true)

/-- `CAUSE` is NONE exactly when `ERR` is not FORMAT (10_state R31, D11). -/
def State.CodesOk (s : State) : Prop := s.cause ≠ .none ↔ s.err = .format

/-- While a command is in flight, `DONE = 0` and `LAST_OP` is the low byte of its word (10_state R28, R34, R47). -/
def State.InFlightOk (s : State) : Prop := s.busy = true → s.done = false ∧ s.lastOp = s.pend.extractLsb' 0 8

/-- OBUF holds nothing, or a frame that `deframe` accepts (42_chunk_framer R174). -/
def State.ObufHoldsFrame (s : State) : Prop :=
  s.obufLen = 0 ∨ ∃ ty len d crc, deframe (s.obufBytes s.obufLen.toNat) = .ok ty len d crc

/-- The invariant of the machine. -/
structure State.Inv (s : State) : Prop where
  memory   : s.MemoryOk
  noChunk  : s.NoChunkOk
  chunk    : s.ChunkOk
  obufFits : s.ObufFits
  visible  : s.VisibleWritten
  codes    : s.CodesOk
  inFlight : s.InFlightOk

/-- What reset leaves of the spec's own state, `PEND` apart, which reset leaves meaningless (10_state R22, 70_reset_and_hazards R230):
the register fields, the sixteen registers as they read, `irq = 0`, and no byte written in any buffer. -/
structure State.HasResetValues (s : State) : Prop where
  busy    : s.busy = false
  done    : s.done = false
  chValid : s.chValid = false
  err     : s.err = .ok
  cause   : s.cause = .none
  buserr  : s.buserr = false
  wrbusy  : s.wrbusy = false
  regs    : ∀ r, s.regVal r = match r with
    | .id => 0x504E4743
    | .param => BitVec.ofNat 32 s.dataMax
    | .tagFlags => 0x00000017
    | .chFlags => 0x00000017
    | .crcAcc => 0xFFFFFFFF
    | .ctrl | .status | .cmd | .typeIn | .ibufLen | .tag | .chType | .chLen | .chCrc | .obufLen | .crcValue => 0x00000000
  irq     : s.irq = false
  ibuf    : s.ibuf = []
  chdata  : s.chdata = []
  obuf    : s.obuf = []

/-! ## Kinds of step -/

/-- The next move is the host transaction `t`. -/
def State.NextIsHost (s : State) (t : Transaction) : Prop := ∃ l, s.sched = .host t :: l

/-- The next move is a host transaction of the row `i`. -/
def State.NextIsRow (s : State) (i : Instr) : Prop := ∃ t, s.NextIsHost t ∧ decodeBus t = i

/-- The next move is `rst`. -/
def State.NextIsReset (s : State) : Prop := ∃ l, s.sched = .rst :: l

/-- The next move is the sequencer's, or there is none left. -/
def State.NextIsSeq (s : State) : Prop := s.sched = [] ∨ ∃ l, s.sched = .seq :: l

/-- The next step is the `Complete` step of the command in flight (30_encoding R100). -/
def State.NextIsComplete (s : State) : Prop := s.busy = true ∧ s.NextIsSeq

/-- The next step is the `Complete` step of the command `i`. -/
def State.NextCompletes (s : State) (i : Instr) : Prop := s.NextIsComplete ∧ decodeCmd s.pend = i

/-! ## Accesses, by their address alone -/

/-- The region of an address as a number (20_memory R61). -/
def regionOf (a : Word) : Nat := a.toNat / 2 ^ 30

/-- The offset of an address within its region as a number (20_memory R61). -/
def offsetOf (a : Word) : Nat := a.toNat % 2 ^ 30

/-- A misaligned address (20_memory R63). -/
def Misaligned (a : Word) : Prop := a.toNat % 4 ≠ 0

/-- A reserved address: a register offset of 0x40 or more, or a window offset at or past the backed size (20_memory R66). -/
def State.Reserved (s : State) (a : Word) : Prop :=
  (regionOf a = 0 ∧ 0x40 ≤ offsetOf a) ∨ (regionOf a = 1 ∧ s.ibufMax ≤ offsetOf a) ∨
  (regionOf a = 2 ∧ s.dataMax ≤ offsetOf a) ∨ (regionOf a = 3 ∧ s.obufMax ≤ offsetOf a)

/-- An address of a read-only register or window (10_state R22, 20_memory R65). -/
def ReadOnly (a : Word) : Prop :=
  (regionOf a = 0 ∧ offsetOf a < 0x40 ∧ offsetOf a ∉ [0x08, 0x0C, 0x10, 0x14, 0x18]) ∨ regionOf a = 2 ∨ regionOf a = 3

/-- An access that sets `BUSERR` (10_state R32). -/
def State.BadAccess (s : State) (t : Transaction) : Prop :=
  Misaligned t.addr ∨ s.Reserved t.addr ∨ (t.we = true ∧ ReadOnly t.addr)

/-- An address whose writes are blocked while `BUSY = 1`: `CMD`, `TYPE_IN`, `IBUF_LEN` or a backed IBUF word (10_state R33). -/
def State.WriteBlockable (s : State) (a : Word) : Prop :=
  ¬Misaligned a ∧ ((regionOf a = 0 ∧ offsetOf a ∈ [0x10, 0x14, 0x18]) ∨ (regionOf a = 1 ∧ offsetOf a < s.ibufMax))

/-- A write of `w` to `STATUS` (10_state R22: offset 0x0C). -/
def WritesStatus (t : Transaction) (w : Word) : Prop := t.we = true ∧ t.addr = 0x0000000C#32 ∧ t.data = w

/-! ## Inputs and results of a command -/

/-- `s` and `t` agree on every input of a command (20_memory R69): `TYPE_IN`, `IBUF_LEN`, IBUF, `TAG`, the chunk register set and
`CRC_ACC`, and on the command itself and the build. -/
def State.SameInputs (s t : State) : Prop :=
  t.typeIn = s.typeIn ∧ t.ibufLen = s.ibufLen ∧ t.ibuf = s.ibuf ∧ t.tag = s.tag ∧ t.chValid = s.chValid ∧ t.chType = s.chType ∧
  t.chLen = s.chLen ∧ t.chCrc = s.chCrc ∧ t.chdata = s.chdata ∧ t.crcAcc = s.crcAcc ∧ t.pend = s.pend ∧ t.lastOp = s.lastOp ∧
  t.obuf = s.obuf ∧ t.obufLen = s.obufLen ∧ t.dataWords = s.dataWords ∧ t.draw = s.draw

/-- `s` and `t` agree on everything a command can read or write but the sticky bus flags, the interrupt enable and the port: the command
ended in the same way in both. -/
def State.SameResults (s t : State) : Prop :=
  s.SameInputs t ∧ t.busy = s.busy ∧ t.done = s.done ∧ t.err = s.err ∧ t.cause = s.cause

/-! ## Byte strings -/

/-- `IBUF[a .. a+n)`. -/
def State.ibufSlice (s : State) (a n : Nat) : List Byte := (List.range n).map fun i => s.ibufByte (a + i)

/-- `s` with bit `k` of byte `i` flipped (42_chunk_framer R175). -/
def flipBit (s : List Byte) (i k : Nat) : List Byte := s.modify i fun b => b ^^^ (1#8 <<< k)

/-- One sequence of the table of 42_chunk_framer R181, by its byte values. -/
def Utf8Sequence : List Byte → Prop
  | [a] => a.toNat ≤ 0x7F
  | [a, b] => (0xC2 ≤ a.toNat ∧ a.toNat ≤ 0xDF) ∧ (0x80 ≤ b.toNat ∧ b.toNat ≤ 0xBF)
  | [a, b, c] =>
    ((a.toNat = 0xE0 ∧ 0xA0 ≤ b.toNat ∧ b.toNat ≤ 0xBF) ∨ (0xE1 ≤ a.toNat ∧ a.toNat ≤ 0xEC ∧ 0x80 ≤ b.toNat ∧ b.toNat ≤ 0xBF) ∨
      (a.toNat = 0xED ∧ 0x80 ≤ b.toNat ∧ b.toNat ≤ 0x9F) ∨ (0xEE ≤ a.toNat ∧ a.toNat ≤ 0xEF ∧ 0x80 ≤ b.toNat ∧ b.toNat ≤ 0xBF)) ∧
    (0x80 ≤ c.toNat ∧ c.toNat ≤ 0xBF)
  | [a, b, c, d] =>
    ((a.toNat = 0xF0 ∧ 0x90 ≤ b.toNat ∧ b.toNat ≤ 0xBF) ∨ (0xF1 ≤ a.toNat ∧ a.toNat ≤ 0xF3 ∧ 0x80 ≤ b.toNat ∧ b.toNat ≤ 0xBF) ∨
      (a.toNat = 0xF4 ∧ 0x80 ≤ b.toNat ∧ b.toNat ≤ 0x8F)) ∧
    (0x80 ≤ c.toNat ∧ c.toNat ≤ 0xBF) ∧ (0x80 ≤ d.toNat ∧ d.toNat ≤ 0xBF)
  | _ => False

/-- An ASCII letter, by its value (40_tag_decoder R118). -/
def IsLetter (b : Nat) : Prop := (0x41 ≤ b ∧ b ≤ 0x5A) ∨ (0x61 ≤ b ∧ b ≤ 0x7A)

end Sys2Proof.Machine
end

