-- ==== Sys2Proof/WellFormed.lean ====
section
/-! DEFINITION. When an `Instr` is one that some command word or bus transaction stands for. -/

namespace Sys2Proof

/-- The checks of 30_encoding R94 (a word of a command is not an illegal word), 20_memory R63 (the misaligned rows by `a[1:0]`, every
other address a multiple of 4) and 20_memory R66 (a reserved register offset is 0x40 or more). -/
def Instr.wellFormed : Instr → Bool
  | .typeFromBytes => true
  | .typeFromText => true
  | .chunkNew => true
  | .chunkDecode => true
  | .chunkEncode => true
  | .dataAsText => true
  | .chunkDiscard => true
  | .crcClear => true
  | .crcAccum => true
  | .illegalCmd w => !(decide (1 ≤ w.toNat) && decide (w.toNat ≤ 9))
  | .rdMisaligned1 a => a.toNat % 4 == 1
  | .rdMisaligned2 a => a.toNat % 4 == 2
  | .rdMisaligned3 a => a.toNat % 4 == 3
  | .wrMisaligned1 a _ => a.toNat % 4 == 1
  | .wrMisaligned2 a _ => a.toNat % 4 == 2
  | .wrMisaligned3 a _ => a.toNat % 4 == 3
  | .rdId => true
  | .wrId _ => true
  | .rdParam => true
  | .wrParam _ => true
  | .rdCtrl => true
  | .wrCtrl _ => true
  | .rdStatus => true
  | .wrStatus _ => true
  | .rdCmd => true
  | .wrCmd _ => true
  | .rdTypeIn => true
  | .wrTypeIn _ => true
  | .rdIbufLen => true
  | .wrIbufLen _ => true
  | .rdTag => true
  | .wrTag _ => true
  | .rdTagFlags => true
  | .wrTagFlags _ => true
  | .rdChType => true
  | .wrChType _ => true
  | .rdChFlags => true
  | .wrChFlags _ => true
  | .rdChLen => true
  | .wrChLen _ => true
  | .rdChCrc => true
  | .wrChCrc _ => true
  | .rdObufLen => true
  | .wrObufLen _ => true
  | .rdCrcAcc => true
  | .wrCrcAcc _ => true
  | .rdCrcValue => true
  | .wrCrcValue _ => true
  | .rdRegReserved off => off.toNat % 4 == 0 && decide (0x40 ≤ off.toNat)
  | .wrRegReserved off _ => off.toNat % 4 == 0 && decide (0x40 ≤ off.toNat)
  | .rdIbuf off => off.toNat % 4 == 0
  | .wrIbuf off _ => off.toNat % 4 == 0
  | .rdChdata off => off.toNat % 4 == 0
  | .wrChdata off _ => off.toNat % 4 == 0
  | .rdObuf off => off.toNat % 4 == 0
  | .wrObuf off _ => off.toNat % 4 == 0

/-- `i` is well formed. -/
abbrev Instr.WellFormed (i : Instr) : Prop := i.wellFormed = true

end Sys2Proof
end

