-- ==== Sys2Proof/Certificates/Slice0/Obligations.lean ====
section
/-! DEFINITION. The statements for the provers. Each docstring names the rule of spec/ it formalises. -/

open Sys2Proof Sys2Proof.Machine

/-! ## Encoding and decoding -/

/-- 30_encoding R93, R96: the encoder and the decoder agree on every well-formed instruction, at every operand value. -/
def Obligations.DecodeOfEncodeIsIdentity : Prop :=
  ∀ i : Instr, i.WellFormed → decode (encode i) = i

/-- 30_encoding R93-R96: whatever word or transaction is decoded, the instruction is well formed, and encoding it again gives back the
word, the write, or the read's address. -/
def Obligations.DecodingIsWellFormedAndLosesNothing : Prop :=
  (∀ f : Form, (decode f).WellFormed) ∧
  (∀ w : Word, encode (decode (.cmd w)) = .cmd w) ∧
  (∀ a w : Word, encode (decode (.bus ⟨true, a, w⟩)) = .bus ⟨true, a, w⟩) ∧
  (∀ a w : Word, encode (decode (.bus ⟨false, a, w⟩)) = .bus ⟨false, a, 0⟩)

/-- 30_encoding R94: a word is legal exactly when bits 31:8 are 0 and bits 7:0 are 0x01 to 0x09; every other word is illegal, and each
legal word selects the one command of R93. -/
def Obligations.CommandWordSelectsExactlyOneCommand : Prop :=
  (∀ w : Word, (w.extractLsb' 8 24 = 0#24 ∧ 0x01#8 ≤ w.extractLsb' 0 8 ∧ w.extractLsb' 0 8 ≤ 0x09#8) ∨ decodeCmd w = .illegalCmd w) ∧
  (∀ w v : Word, decodeCmd w = .illegalCmd v →
    v = w ∧ ¬(w.extractLsb' 8 24 = 0#24 ∧ 0x01#8 ≤ w.extractLsb' 0 8 ∧ w.extractLsb' 0 8 ≤ 0x09#8)) ∧
  (∀ w : Word, decodeCmd w = .typeFromBytes ↔ w = 0x00000001#32) ∧
  (∀ w : Word, decodeCmd w = .typeFromText ↔ w = 0x00000002#32) ∧
  (∀ w : Word, decodeCmd w = .chunkNew ↔ w = 0x00000003#32) ∧
  (∀ w : Word, decodeCmd w = .chunkDecode ↔ w = 0x00000004#32) ∧
  (∀ w : Word, decodeCmd w = .chunkEncode ↔ w = 0x00000005#32) ∧
  (∀ w : Word, decodeCmd w = .dataAsText ↔ w = 0x00000006#32) ∧
  (∀ w : Word, decodeCmd w = .chunkDiscard ↔ w = 0x00000007#32) ∧
  (∀ w : Word, decodeCmd w = .crcClear ↔ w = 0x00000008#32) ∧
  (∀ w : Word, decodeCmd w = .crcAccum ↔ w = 0x00000009#32)

/-- 30_encoding R93, R96, 10_state R22, 20_memory R61: the words of the nine commands, an illegal one of each kind (too high an opcode,
`RSVD` not 0, opcode 0) and eight bus keys decode to what they stand for. The key `we << 32 | a` is the spec's; that it is numbered in 40
bits, with the write data above them and 0 here, is the model's choice (log 5). -/
def Obligations.SpecWordsDecodeToTheirInstructions : Prop :=
  decodeTableWord 32 0x00000001 = some .typeFromBytes ∧ decodeTableWord 32 0x00000002 = some .typeFromText ∧
  decodeTableWord 32 0x00000003 = some .chunkNew ∧ decodeTableWord 32 0x00000004 = some .chunkDecode ∧
  decodeTableWord 32 0x00000005 = some .chunkEncode ∧ decodeTableWord 32 0x00000006 = some .dataAsText ∧
  decodeTableWord 32 0x00000007 = some .chunkDiscard ∧ decodeTableWord 32 0x00000008 = some .crcClear ∧
  decodeTableWord 32 0x00000009 = some .crcAccum ∧ decodeTableWord 32 0x0000000A = some (.illegalCmd 0x0000000A) ∧
  decodeTableWord 32 0x00000103 = some (.illegalCmd 0x00000103) ∧ decodeTableWord 32 0x00000000 = some (.illegalCmd 0) ∧
  decodeTableWord 40 0x000000020 = some .rdTagFlags ∧ decodeTableWord 40 0x100000010 = some (.wrCmd 0) ∧
  decodeTableWord 40 0x00000000D = some (.rdMisaligned1 0x0000000D) ∧
  decodeTableWord 40 0x10000000E = some (.wrMisaligned2 0x0000000E 0) ∧
  decodeTableWord 40 0x000000100 = some (.rdRegReserved 0x100) ∧ decodeTableWord 40 0x04000004C = some (.rdIbuf 0x4C) ∧
  decodeTableWord 40 0x0C0000030 = some (.rdObuf 0x30) ∧ decodeTableWord 40 0x180000000 = some (.wrChdata 0 0)

/-- 10_state R22, 20_memory R61, R63, R66, 30_encoding R96: which row EVERY address decodes to, for reads and for writes. The sixteen
registers stand at the offsets of the map; every other aligned offset of region 00 is reserved; regions 01, 10 and 11 are the IBUF, CHDATA
and OBUF windows, at every aligned offset; a misaligned address is its misaligned row, whatever its region. -/
def Obligations.RegisterMapDecodes : Prop :=
  (∀ a w : Word, ¬Misaligned a →
    (regionOf a = 0 → 0x40 ≤ offsetOf a → decodeBus ⟨false, a, w⟩ = .rdRegReserved (BitVec.ofNat 30 (offsetOf a)) ∧
      decodeBus ⟨true, a, w⟩ = .wrRegReserved (BitVec.ofNat 30 (offsetOf a)) w) ∧
    (regionOf a = 1 → decodeBus ⟨false, a, w⟩ = .rdIbuf (BitVec.ofNat 30 (offsetOf a)) ∧
      decodeBus ⟨true, a, w⟩ = .wrIbuf (BitVec.ofNat 30 (offsetOf a)) w) ∧
    (regionOf a = 2 → decodeBus ⟨false, a, w⟩ = .rdChdata (BitVec.ofNat 30 (offsetOf a)) ∧
      decodeBus ⟨true, a, w⟩ = .wrChdata (BitVec.ofNat 30 (offsetOf a)) w) ∧
    (regionOf a = 3 → decodeBus ⟨false, a, w⟩ = .rdObuf (BitVec.ofNat 30 (offsetOf a)) ∧
      decodeBus ⟨true, a, w⟩ = .wrObuf (BitVec.ofNat 30 (offsetOf a)) w)) ∧
  (∀ a w : Word,
    (a.toNat % 4 = 1 → decodeBus ⟨false, a, w⟩ = .rdMisaligned1 a ∧ decodeBus ⟨true, a, w⟩ = .wrMisaligned1 a w) ∧
    (a.toNat % 4 = 2 → decodeBus ⟨false, a, w⟩ = .rdMisaligned2 a ∧ decodeBus ⟨true, a, w⟩ = .wrMisaligned2 a w) ∧
    (a.toNat % 4 = 3 → decodeBus ⟨false, a, w⟩ = .rdMisaligned3 a ∧ decodeBus ⟨true, a, w⟩ = .wrMisaligned3 a w)) ∧
  ∀ w : Word,
    decodeBus ⟨false, 0x00000000, w⟩ = .rdId ∧ decodeBus ⟨true, 0x00000000, w⟩ = .wrId w ∧
    decodeBus ⟨false, 0x00000004, w⟩ = .rdParam ∧ decodeBus ⟨true, 0x00000004, w⟩ = .wrParam w ∧
    decodeBus ⟨false, 0x00000008, w⟩ = .rdCtrl ∧ decodeBus ⟨true, 0x00000008, w⟩ = .wrCtrl w ∧
    decodeBus ⟨false, 0x0000000C, w⟩ = .rdStatus ∧ decodeBus ⟨true, 0x0000000C, w⟩ = .wrStatus w ∧
    decodeBus ⟨false, 0x00000010, w⟩ = .rdCmd ∧ decodeBus ⟨true, 0x00000010, w⟩ = .wrCmd w ∧
    decodeBus ⟨false, 0x00000014, w⟩ = .rdTypeIn ∧ decodeBus ⟨true, 0x00000014, w⟩ = .wrTypeIn w ∧
    decodeBus ⟨false, 0x00000018, w⟩ = .rdIbufLen ∧ decodeBus ⟨true, 0x00000018, w⟩ = .wrIbufLen w ∧
    decodeBus ⟨false, 0x0000001C, w⟩ = .rdTag ∧ decodeBus ⟨true, 0x0000001C, w⟩ = .wrTag w ∧
    decodeBus ⟨false, 0x00000020, w⟩ = .rdTagFlags ∧ decodeBus ⟨true, 0x00000020, w⟩ = .wrTagFlags w ∧
    decodeBus ⟨false, 0x00000024, w⟩ = .rdChType ∧ decodeBus ⟨true, 0x00000024, w⟩ = .wrChType w ∧
    decodeBus ⟨false, 0x00000028, w⟩ = .rdChFlags ∧ decodeBus ⟨true, 0x00000028, w⟩ = .wrChFlags w ∧
    decodeBus ⟨false, 0x0000002C, w⟩ = .rdChLen ∧ decodeBus ⟨true, 0x0000002C, w⟩ = .wrChLen w ∧
    decodeBus ⟨false, 0x00000030, w⟩ = .rdChCrc ∧ decodeBus ⟨true, 0x00000030, w⟩ = .wrChCrc w ∧
    decodeBus ⟨false, 0x00000034, w⟩ = .rdObufLen ∧ decodeBus ⟨true, 0x00000034, w⟩ = .wrObufLen w ∧
    decodeBus ⟨false, 0x00000038, w⟩ = .rdCrcAcc ∧ decodeBus ⟨true, 0x00000038, w⟩ = .wrCrcAcc w ∧
    decodeBus ⟨false, 0x0000003C, w⟩ = .rdCrcValue ∧ decodeBus ⟨true, 0x0000003C, w⟩ = .wrCrcValue w

/-! ## The step -/

/-- 20_memory R68, 30_encoding R96, R100, 70_reset_and_hazards R231-R233; the schedule is the model's (log 5). A step runs the decoded
transaction of the next host move, or the decoded command in flight at the sequencer's turn, or resets, or waits; around `exec` it only
takes the move. -/
def Obligations.StepRunsTheDecodedInstruction : Prop :=
  (∀ s t l, s.sched = .host t :: l → step s = exec (decodeBus t) { s with sched := l }) ∧
  (∀ s l, s.sched = .seq :: l → s.busy = true → step s = exec (decodeCmd s.pend) { s with sched := l }) ∧
  (∀ s, s.sched = [] → s.busy = true → step s = exec (decodeCmd s.pend) s) ∧
  (∀ s l, s.sched = .seq :: l → s.busy = false → step s = .next { s with sched := l }) ∧
  (∀ s, s.sched = [] → s.busy = false → step s = .next s) ∧
  (∀ s l, s.sched = .rst :: l →
    step s = .next { State.reset with dataWords := s.dataWords, draw := s.draw + 1, rdata := s.rdata, sched := l })

/-- 60_exceptions R205, R206: no trap stops the block, so from every state a step leads to a next state. That it takes at most one move
of the schedule is a claim about the model's DESIGN CHOICE of log 5, and that it keeps `dataWords` one about that of log 1. -/
def Obligations.EveryStepHasANextState : Prop :=
  ∀ s : State, ∃ t, step s = .next t ∧ t.sched = s.sched.tail ∧ t.dataWords = s.dataWords

/-- 70_reset_and_hazards R230, R231, 10_state R22: the state after reset has the values of the Reset column, and `rst` leads there from
every state, a command in flight or not. The model's choices in it: no byte of a buffer counts as written, so that each holds its free draw
(20_memory R77; logs 2, 3, 10); the build and the later moves are kept (logs 1, 5). `PEND`, `draw` and `rdata` are left out (logs 4, 6, 7). -/
def Obligations.ResetLeavesTheResetValues : Prop :=
  State.reset.HasResetValues ∧
  ∀ s : State, s.NextIsReset → ∃ t, step s = .next t ∧ t.HasResetValues ∧ t.dataWords = s.dataWords ∧ t.sched = s.sched.tail

/-! ## Bus accesses -/

/-- 20_memory R63: a misaligned read returns 0 and sets BUSERR; a misaligned write changes nothing except BUSERR. -/
def Obligations.MisalignedAccessOnlyFlagsBuserr : Prop :=
  (∀ (a w : Word) (s : State), Misaligned a →
    exec (decodeBus ⟨false, a, w⟩) s = .next { s with buserr := true, rdata := 0x00000000 } ∧
    exec (decodeBus ⟨true, a, w⟩) s = .next { s with buserr := true }) ∧
  (∀ (a w : Word) (s : State),
    exec (.rdMisaligned1 a) s = .next { s with buserr := true, rdata := 0x00000000 } ∧
    exec (.rdMisaligned2 a) s = .next { s with buserr := true, rdata := 0x00000000 } ∧
    exec (.rdMisaligned3 a) s = .next { s with buserr := true, rdata := 0x00000000 } ∧
    exec (.wrMisaligned1 a w) s = .next { s with buserr := true } ∧
    exec (.wrMisaligned2 a w) s = .next { s with buserr := true } ∧
    exec (.wrMisaligned3 a w) s = .next { s with buserr := true })

/-- 20_memory R66: an access to a reserved address reads 0, changes nothing if it is a write, and sets BUSERR; with `DATA_MAX = 0` every
offset of the CHDATA window is reserved. -/
def Obligations.ReservedAccessOnlyFlagsBuserr : Prop :=
  (∀ (a w : Word) (s : State), s.Reserved a → ¬Misaligned a →
    exec (decodeBus ⟨false, a, w⟩) s = .next { s with buserr := true, rdata := 0x00000000 } ∧
    exec (decodeBus ⟨true, a, w⟩) s = .next { s with buserr := true }) ∧
  (∀ (a : Word) (s : State), s.dataMax = 0 → regionOf a = 2 → s.Reserved a) ∧
  (∀ (off : Offset) (w : Word) (s : State),
    exec (.rdRegReserved off) s = .next { s with buserr := true, rdata := 0x00000000 } ∧
    exec (.wrRegReserved off w) s = .next { s with buserr := true })

/-- 20_memory R64, 10_state R23, R24, R37-R47, 41_crc32 R154: a read of a register answers its value and has no side effect
(`rdata` is the answer on the port). `ID`, `TAG`, `CH_TYPE`, `CRC_ACC` and `CRC_VALUE` are read at their offsets. -/
def Obligations.RegisterReadAnswersItsValue : Prop :=
  (∀ w : Word, decodeBus ⟨false, 0x00000000, w⟩ = .rdId ∧ decodeBus ⟨false, 0x0000001C, w⟩ = .rdTag ∧
    decodeBus ⟨false, 0x00000024, w⟩ = .rdChType ∧ decodeBus ⟨false, 0x00000038, w⟩ = .rdCrcAcc ∧
    decodeBus ⟨false, 0x0000003C, w⟩ = .rdCrcValue) ∧
  ∀ s : State,
    exec .rdId s = .next { s with rdata := 0x504E4743 } ∧
    exec .rdParam s = .next { s with rdata := BitVec.ofNat 32 s.dataMax } ∧
    exec .rdCtrl s = .next { s with rdata := if s.ctrlIe then 0x00000001 else 0x00000000 } ∧
    exec .rdCmd s = .next { s with rdata := 0x00000000 } ∧
    exec .rdTypeIn s = .next { s with rdata := s.typeIn } ∧
    exec .rdIbufLen s = .next { s with rdata := s.ibufLen } ∧
    exec .rdTag s = .next { s with rdata := s.tag } ∧
    exec .rdTagFlags s = .next { s with rdata := tagFlags s.tag } ∧
    exec .rdChType s = .next { s with rdata := s.chType } ∧
    exec .rdChFlags s = .next { s with rdata := tagFlags s.chType } ∧
    exec .rdChLen s = .next { s with rdata := s.chLen } ∧
    exec .rdChCrc s = .next { s with rdata := s.chCrc } ∧
    exec .rdObufLen s = .next { s with rdata := s.obufLen } ∧
    exec .rdCrcAcc s = .next { s with rdata := s.crcAcc } ∧
    exec .rdCrcValue s = .next { s with rdata := s.crcAcc ^^^ 0xFFFFFFFF#32 }

/-- 10_state R26, R30, R31: a read of `STATUS` answers its fields at their bits, `ERR` and `CAUSE` by their numbers, reserved bits 0, and
has no side effect. -/
def Obligations.StatusReadShowsItsFields : Prop :=
  ∀ s : State, ∃ v : Word, exec .rdStatus s = .next { s with rdata := v } ∧
    v.getLsbD 0 = s.busy ∧ v.getLsbD 1 = s.done ∧ v.getLsbD 2 = s.chValid ∧ v.getLsbD 3 = false ∧
    v.extractLsb' 4 4 = (match s.err with
      | .ok => 0#4 | .format => 1#4 | .crcMismatch => 2#4 | .encoding => 3#4 | .capacity => 4#4 | .noChunk => 5#4 | .illegalCmd => 6#4) ∧
    v.extractLsb' 8 4 = (match s.cause with
      | .none => 0#4 | .frameTooShort => 1#4 | .lengthMismatch => 2#4 | .textLength => 3#4 | .textNotAlpha => 4#4) ∧
    v.extractLsb' 12 4 = 0#4 ∧
    v.getLsbD 16 = s.buserr ∧ v.getLsbD 17 = s.wrbusy ∧ v.extractLsb' 18 6 = 0#6 ∧ v.extractLsb' 24 8 = s.lastOp

/-- 20_memory R64: a read at a backed aligned offset of the IBUF window answers the four stored bytes, first byte highest, and has no
side effect; past the backed size it answers 0 and sets BUSERR. -/
def Obligations.IbufReadPacksFourBytes : Prop :=
  ∀ (off : Offset) (s : State),
    (off.toNat < s.ibufMax → ∃ v, exec (.rdIbuf off) s = .next { s with rdata := v } ∧
      v.extractLsb' 24 8 = s.ibufByte off.toNat ∧ v.extractLsb' 16 8 = s.ibufByte (off.toNat + 1) ∧
      v.extractLsb' 8 8 = s.ibufByte (off.toNat + 2) ∧ v.extractLsb' 0 8 = s.ibufByte (off.toNat + 3)) ∧
    (s.ibufMax ≤ off.toNat → exec (.rdIbuf off) s = .next { s with buserr := true, rdata := 0x00000000 })

/-- 20_memory R64, D17: a read in the CHDATA or OBUF window answers the four bytes, first byte highest, each 0x00 at or past `CH_LEN` or
`OBUF_LEN`, and has no side effect; past the backed size it answers 0 and sets BUSERR. -/
def Obligations.MaskedWindowReadsHideStaleBytes : Prop :=
  ∀ (off : Offset) (s : State),
    (off.toNat < s.dataMax → ∃ v, exec (.rdChdata off) s = .next { s with rdata := v } ∧
      ∀ k, k < 4 → v.extractLsb' (24 - 8 * k) 8 =
        if off.toNat + k < s.chLen.toNat then s.chdataByte (off.toNat + k) else 0x00#8) ∧
    (s.dataMax ≤ off.toNat → exec (.rdChdata off) s = .next { s with buserr := true, rdata := 0x00000000 }) ∧
    (off.toNat < s.obufMax → ∃ v, exec (.rdObuf off) s = .next { s with rdata := v } ∧
      ∀ k, k < 4 → v.extractLsb' (24 - 8 * k) 8 =
        if off.toNat + k < s.obufLen.toNat then s.obufByte (off.toNat + k) else 0x00#8) ∧
    (s.obufMax ≤ off.toNat → exec (.rdObuf off) s = .next { s with buserr := true, rdata := 0x00000000 })

/-- 20_memory R65, D33: a write to a read-only register or window is ignored and sets BUSERR. -/
def Obligations.ReadOnlyWriteOnlyFlagsBuserr : Prop :=
  ∀ (w : Word) (off : Offset) (s : State),
    exec (.wrId w) s = .next { s with buserr := true } ∧ exec (.wrParam w) s = .next { s with buserr := true } ∧
    exec (.wrTag w) s = .next { s with buserr := true } ∧ exec (.wrTagFlags w) s = .next { s with buserr := true } ∧
    exec (.wrChType w) s = .next { s with buserr := true } ∧ exec (.wrChFlags w) s = .next { s with buserr := true } ∧
    exec (.wrChLen w) s = .next { s with buserr := true } ∧ exec (.wrChCrc w) s = .next { s with buserr := true } ∧
    exec (.wrObufLen w) s = .next { s with buserr := true } ∧ exec (.wrCrcAcc w) s = .next { s with buserr := true } ∧
    exec (.wrCrcValue w) s = .next { s with buserr := true } ∧
    exec (.wrChdata off w) s = .next { s with buserr := true } ∧ exec (.wrObuf off w) s = .next { s with buserr := true }

/-- 10_state R25: `CTRL` stands at offset 0x08 and is 0 after reset; a write at any time stores bit 0 in IE, and nothing else; a read then
shows IE in bit 0 and 0 above; IE is the enable term of `irq`. -/
def Obligations.CtrlWriteStoresIe : Prop :=
  (∀ w : Word, decodeBus ⟨true, 0x00000008, w⟩ = .wrCtrl w ∧ decodeBus ⟨false, 0x00000008, w⟩ = .rdCtrl) ∧
  State.reset.ctrlIe = false ∧
  ∀ (w : Word) (s : State), exec (.wrCtrl w) s = .next { s with ctrlIe := w.getLsbD 0 } ∧
    State.irq { s with ctrlIe := w.getLsbD 0 } = (w.getLsbD 0 && s.done) ∧
    ∃ v : Word, exec .rdCtrl { s with ctrlIe := w.getLsbD 0 } = .next { s with ctrlIe := w.getLsbD 0, rdata := v } ∧
      v.getLsbD 0 = w.getLsbD 0 ∧ ∀ i, 0 < i → v.getLsbD i = false

/-- 10_state R26: a write to `STATUS`, whatever BUSY is, clears DONE, BUSERR and WRBUSY where bits 1, 16 and 17 are 1, and changes
nothing else. -/
def Obligations.StatusWriteClearsByOnes : Prop :=
  ∀ (w : Word) (s : State), exec (.wrStatus w) s = .next { s with
    done   := if w.getLsbD 1 then false else s.done
    buserr := if w.getLsbD 16 then false else s.buserr
    wrbusy := if w.getLsbD 17 then false else s.wrbusy }

/-- 10_state R47: `CMD` reads 0; a write while BUSY is 0 accepts the word and has no other effect, and while BUSY is 1 is ignored and
sets WRBUSY. It stands at offset 0x10. -/
def Obligations.CmdWriteAcceptsOrIsBlocked : Prop :=
  (∀ w : Word, decodeBus ⟨true, 0x00000010, w⟩ = .wrCmd w ∧ decodeBus ⟨false, 0x00000010, w⟩ = .rdCmd) ∧
  ∀ (w : Word) (s : State),
    exec .rdCmd s = .next { s with rdata := 0x00000000 } ∧
    (s.busy = false →
      exec (.wrCmd w) s = .next { s with pend := w, busy := true, done := false, lastOp := w.extractLsb' 0 8 }) ∧
    (s.busy = true → exec (.wrCmd w) s = .next { s with wrbusy := true })

/-- 10_state R41, R42, 20_memory R65: while BUSY is 0 a write to `TYPE_IN` or `IBUF_LEN` stores every bit; while BUSY is 1 it is
ignored and sets WRBUSY. -/
def Obligations.StagingRegisterWriteStoresOrIsBlocked : Prop :=
  ∀ (w : Word) (s : State),
    (s.busy = false → exec (.wrTypeIn w) s = .next { s with typeIn := w } ∧ exec (.wrIbufLen w) s = .next { s with ibufLen := w }) ∧
    (s.busy = true → exec (.wrTypeIn w) s = .next { s with wrbusy := true } ∧ exec (.wrIbufLen w) s = .next { s with wrbusy := true })

/-- 20_memory R65: in this order, an IBUF write past the backed size sets BUSERR, one while BUSY is 1 sets WRBUSY, and any other stores
its four bytes, first byte highest, and changes no other byte and no other state. -/
def Obligations.IbufWriteStoresFourBytes : Prop :=
  ∀ (off : Offset) (w : Word) (s : State),
    (s.ibufMax ≤ off.toNat → exec (.wrIbuf off w) s = .next { s with buserr := true }) ∧
    (off.toNat < s.ibufMax → s.busy = true → exec (.wrIbuf off w) s = .next { s with wrbusy := true }) ∧
    (off.toNat < s.ibufMax → s.busy = false → ∃ t, exec (.wrIbuf off w) s = .next t ∧ { t with ibuf := s.ibuf } = s ∧
      t.ibufByte off.toNat = w.extractLsb' 24 8 ∧ t.ibufByte (off.toNat + 1) = w.extractLsb' 16 8 ∧
      t.ibufByte (off.toNat + 2) = w.extractLsb' 8 8 ∧ t.ibufByte (off.toNat + 3) = w.extractLsb' 0 8 ∧
      ∀ i, i < off.toNat ∨ off.toNat + 4 ≤ i → t.ibufByte i = s.ibufByte i)

/-- 20_memory R62, R64, R65: a word stored in IBUF reads back unchanged at its offset, and the words at other aligned offsets read as
before. -/
def Obligations.IbufWordReadsBack : Prop :=
  ∀ (off off' : Offset) (w : Word) (s t : State), off.toNat < s.ibufMax → off'.toNat < s.ibufMax → s.busy = false →
    off.toNat % 4 = 0 → off'.toNat % 4 = 0 → exec (.wrIbuf off w) s = .next t →
    exec (.rdIbuf off') t = .next { t with rdata := if off' = off then w else s.ibufWord off'.toNat }

/-- Repeating a write with the same value changes nothing more: for `CTRL`, `TYPE_IN`, `IBUF_LEN` and IBUF by 20_memory R67; for `STATUS`,
which R67 does not list, by the W1C rule of 10_state R26 and 20_memory R65. -/
def Obligations.RepeatedWriteIsIdempotent : Prop :=
  ∀ (i : Instr) (s t : State), s.MemoryOk →
    (match i with | .wrCtrl _ | .wrStatus _ | .wrTypeIn _ | .wrIbufLen _ | .wrIbuf _ _ => True | _ => False) →
    exec i s = .next t → exec i t = .next t

/-! ## The tag decoder -/

/-- 40_tag_decoder R111-R116, R118: the bits of the flag word, from the bits of the tag word; bit 5 is set exactly when all four bytes
are ASCII letters. `TAG_FLAGS` and `CH_FLAGS` read as the flag words of `TAG` and `CH_TYPE`. -/
def Obligations.TagFlagsDecodeTheCaseBits : Prop :=
  (∀ v : Word,
    (tagFlags v).getLsbD 0 = !v.getLsbD 29 ∧ (tagFlags v).getLsbD 1 = !v.getLsbD 21 ∧
    (tagFlags v).getLsbD 2 = !v.getLsbD 13 ∧ (tagFlags v).getLsbD 3 = v.getLsbD 5 ∧
    (tagFlags v).getLsbD 4 = !v.getLsbD 13 ∧
    ((tagFlags v).getLsbD 5 = true ↔ IsLetter (v.toNat / 2 ^ 24) ∧ IsLetter (v.toNat / 2 ^ 16 % 2 ^ 8) ∧
      IsLetter (v.toNat / 2 ^ 8 % 2 ^ 8) ∧ IsLetter (v.toNat % 2 ^ 8)) ∧
    ∀ i, 6 ≤ i → (tagFlags v).getLsbD i = false) ∧
  ∀ s : State, exec .rdTagFlags s = .next { s with rdata := tagFlags s.tag } ∧
    exec .rdChFlags s = .next { s with rdata := tagFlags s.chType }

/-- 40_tag_decoder R120: TYPE_FROM_BYTES copies `TYPE_IN` to `TAG`, always succeeds, and changes only `TAG` and the status. -/
def Obligations.TypeFromBytesCopiesTypeIn : Prop :=
  decodeCmd 0x00000001 = .typeFromBytes ∧
  (∀ s : State, exec .typeFromBytes s = .next { s with
    tag := s.typeIn, busy := false, done := true, err := .ok, cause := .none }) ∧
  tagFlags 0x52755374 = 0x0000003D

/-- 40_tag_decoder R122: TYPE_FROM_TEXT checks the length, then the four letters, and stores the tag; a failure changes only the
status. -/
def Obligations.TypeFromTextTakesFourLetters : Prop :=
  decodeCmd 0x00000002 = .typeFromText ∧
  ∀ s : State,
    (s.ibufLen.toNat ≠ 4 → exec .typeFromText s = .next { s with
      busy := false, done := true, err := .format, cause := .textLength }) ∧
    (s.ibufLen.toNat = 4 → (∃ i, i < 4 ∧ ¬IsLetter (s.ibufByte i).toNat) → exec .typeFromText s = .next { s with
      busy := false, done := true, err := .format, cause := .textNotAlpha }) ∧
    (s.ibufLen.toNat = 4 → (∀ i, i < 4 → IsLetter (s.ibufByte i).toNat) → exec .typeFromText s = .next { s with
      tag := s.ibufByte 0 ++ s.ibufByte 1 ++ s.ibufByte 2 ++ s.ibufByte 3,
      busy := false, done := true, err := .ok, cause := .none })

/-! ## The CRC generator -/

/-- 41_crc32 R150: CRC_CLEAR sets `CRC_ACC`, never fails and touches nothing else but the status. -/
def Obligations.CrcClearSetsTheInitialValue : Prop :=
  decodeCmd 0x00000008 = .crcClear ∧
  ∀ s : State, exec .crcClear s = .next { s with
    crcAcc := 0xFFFFFFFF, busy := false, done := true, err := .ok, cause := .none } ∧
    State.regVal { s with crcAcc := 0xFFFFFFFF, busy := false, done := true, err := .ok, cause := .none } .crcValue = 0x00000000

/-- 41_crc32 R152 over the CRC functions of R141 (general knowledge of the spec, log 11): CRC_ACCUM feeds the first `IBUF_LEN` bytes of
IBUF, in order; past `IBUF_MAX` it fails with CAPACITY and changes only the status. `crcRun` is the fold of `crcStep`. -/
def Obligations.CrcAccumFeedsIbuf : Prop :=
  decodeCmd 0x00000009 = .crcAccum ∧
  (∀ (c : Word), crcRun c [] = c) ∧ (∀ (c : Word) (b : Byte) (d : List Byte), crcRun c (b :: d) = crcRun (crcStep c b) d) ∧
  ∀ s : State,
    (s.ibufLen.toNat ≤ s.ibufMax → exec .crcAccum s = .next { s with
      crcAcc := crcRun s.crcAcc (s.ibufSlice 0 s.ibufLen.toNat), busy := false, done := true, err := .ok, cause := .none }) ∧
    (s.ibufMax < s.ibufLen.toNat → exec .crcAccum s = .next { s with
      busy := false, done := true, err := .capacity, cause := .none })

/-- 41_crc32 R143, R152 (the chaining law is the spec's derived one; the CRC function is its general knowledge, log 11): a
generator that has been fed `p` since the last clear reads, after one more CRC_ACCUM, the CRC-32 of `p` and the bytes just fed. -/
def Obligations.CrcChainsAcrossPieces : Prop :=
  ∀ (s : State) (p : List Byte), s.crcAcc = crcRun 0xFFFFFFFF#32 p → s.ibufLen.toNat ≤ s.ibufMax →
    ∃ t, exec .crcAccum s = .next t ∧ t.regVal .crcValue = crc32 (p ++ s.ibufSlice 0 s.ibufLen.toNat) ∧
      t.crcAcc = crcRun 0xFFFFFFFF#32 (p ++ s.ibufSlice 0 s.ibufLen.toNat)

/-- 41_crc32 R140, R141, R142 (general knowledge of the spec, log 11): `crc_step` is eight rounds of the bit loop with the reflected
polynomial 0xEDB88320, and the table form computes the same step; `crc32` starts from 0xFFFFFFFF and ends with that XOR; the entries of
the table that R142 lists, and the check value of R140 for the ASCII string 123456789. -/
def Obligations.CrcTableFormAgrees : Prop :=
  (∀ (c : Word) (b : Byte), crcStep c b = (List.range 8).foldl
    (fun r _ => if r.getLsbD 0 then (r >>> 1) ^^^ 0xEDB88320#32 else r >>> 1) (c ^^^ b.setWidth 32)) ∧
  (∀ (c : Word) (b : Byte), crcStep c b = (c >>> 8) ^^^ crcTable ((c ^^^ b.setWidth 32).extractLsb' 0 8)) ∧
  (∀ s : List Byte, crc32 s = s.foldl crcStep 0xFFFFFFFF#32 ^^^ 0xFFFFFFFF#32) ∧
  crcTable 0x00 = 0x00000000 ∧ crcTable 0x01 = 0x77073096 ∧ crcTable 0x02 = 0xEE0E612C ∧ crcTable 0x03 = 0x990951BA ∧
  crcTable 0x08 = 0x0EDB8832 ∧ crcTable 0x10 = 0x1DB71064 ∧ crcTable 0x80 = 0xEDB88320 ∧ crcTable 0xFF = 0x2D02EF8D ∧
  crc32 [0x31, 0x32, 0x33, 0x34, 0x35, 0x36, 0x37, 0x38, 0x39] = 0xCBF43926

/-- 41_crc32 R145 item 4 (general knowledge of the spec, log 11): two byte strings that differ in exactly one bit have different
CRCs. -/
def Obligations.CrcDetectsEverySingleBitError : Prop :=
  ∀ (s : List Byte) (i k : Nat), i < s.length → k < 8 → crc32 (flipBit s i k) ≠ crc32 s

/-! ## The chunk framer -/

/-- 42_chunk_framer R164 over the CRC of 41_crc32 R141 (general knowledge of the spec, log 11): CHUNK_NEW builds the chunk from `TAG` and
the first `IBUF_LEN` bytes of IBUF; past `DATA_MAX` it fails with CAPACITY and changes only the status. -/
def Obligations.ChunkNewBuildsTheChunk : Prop :=
  decodeCmd 0x00000003 = .chunkNew ∧
  ∀ s : State,
    (s.ibufLen.toNat ≤ s.dataMax → ∃ t, exec .chunkNew s = .next t ∧
      { t with chdata := s.chdata } = { s with
        chType := s.tag, chLen := s.ibufLen, chValid := true,
        chCrc := crc32 (bytesBe32 s.tag ++ s.ibufSlice 0 s.ibufLen.toNat),
        busy := false, done := true, err := .ok, cause := .none } ∧
      (∀ i, i < s.ibufLen.toNat → t.chdataByte i = s.ibufByte i) ∧
      (∀ i, s.ibufLen.toNat ≤ i → t.chdataByte i = s.chdataByte i) ∧
      t.regVal .chFlags = tagFlags s.tag) ∧
    (s.dataMax < s.ibufLen.toNat → exec .chunkNew s = .next { s with
      busy := false, done := true, err := .capacity, cause := .none })

/-- 42_chunk_framer R166: CHUNK_ENCODE writes length, type, data and the stored CRC to OBUF; without a chunk it fails with NO_CHUNK and
changes only the status. That `12 + CH_LEN` wraps at 32 bits and is not checked against `OBUF_MAX` is the model's choice for states no run
reaches (log 12). -/
def Obligations.ChunkEncodeWritesTheFrame : Prop :=
  decodeCmd 0x00000005 = .chunkEncode ∧
  ∀ s : State,
    (s.chValid = true → ∃ t, exec .chunkEncode s = .next t ∧
      { t with obuf := s.obuf } = { s with
        obufLen := 12 + s.chLen, busy := false, done := true, err := .ok, cause := .none } ∧
      t.obufBytes (12 + s.chLen.toNat) =
        bytesBe32 s.chLen ++ bytesBe32 s.chType ++ s.chdataBytes s.chLen.toNat ++ bytesBe32 s.chCrc ∧
      (∀ i, 12 + s.chLen.toNat ≤ i → t.obufByte i = s.obufByte i)) ∧
    (s.chValid = false → exec .chunkEncode s = .next { s with
      busy := false, done := true, err := .noChunk, cause := .none })

/-- 42_chunk_framer R170, R163 over the CRC of 41_crc32 R141 (general knowledge of the spec, log 11): CHUNK_DECODE makes its checks in
order, and on success the chunk is the frame's; a failure changes only the status. -/
def Obligations.ChunkDecodeChecksTheFrame : Prop :=
  decodeCmd 0x00000004 = .chunkDecode ∧
  ∀ (s : State) (n : Nat), n = s.ibufLen.toNat →
    (s.ibufMax < n → exec .chunkDecode s = .next { s with
      busy := false, done := true, err := .capacity, cause := .none }) ∧
    (n < 12 → exec .chunkDecode s = .next { s with
      busy := false, done := true, err := .format, cause := .frameTooShort }) ∧
    (12 ≤ n → n ≤ s.ibufMax → (be32 (s.ibufSlice 0 4)).toNat ≠ n - 12 → exec .chunkDecode s = .next { s with
      busy := false, done := true, err := .format, cause := .lengthMismatch }) ∧
    (12 ≤ n → n ≤ s.ibufMax → (be32 (s.ibufSlice 0 4)).toNat = n - 12 →
      crc32 (s.ibufSlice 4 (n - 8)) ≠ be32 (s.ibufSlice (n - 4) 4) → exec .chunkDecode s = .next { s with
      busy := false, done := true, err := .crcMismatch, cause := .none }) ∧
    (12 ≤ n → n ≤ s.ibufMax → (be32 (s.ibufSlice 0 4)).toNat = n - 12 →
      crc32 (s.ibufSlice 4 (n - 8)) = be32 (s.ibufSlice (n - 4) 4) → ∃ t, exec .chunkDecode s = .next t ∧
      { t with chdata := s.chdata } = { s with
        chType := be32 (s.ibufSlice 4 4), chLen := be32 (s.ibufSlice 0 4), chCrc := be32 (s.ibufSlice (n - 4) 4), chValid := true,
        busy := false, done := true, err := .ok, cause := .none } ∧
      (∀ i, i < n - 12 → t.chdataByte i = s.ibufByte (8 + i)) ∧
      (∀ i, n - 12 ≤ i → t.chdataByte i = s.chdataByte i))

/-- 42_chunk_framer R178: CHUNK_DISCARD empties the chunk registers, never fails, does not erase CHDATA, and every CHDATA read then
answers 0. -/
def Obligations.ChunkDiscardEmptiesTheChunk : Prop :=
  decodeCmd 0x00000007 = .chunkDiscard ∧
  ∀ s : State, ∃ t, exec .chunkDiscard s = .next t ∧
    t = { s with
      chValid := false, chType := 0, chLen := 0, chCrc := 0, busy := false, done := true, err := .ok, cause := .none } ∧
    t.regVal .chFlags = 0x00000017 ∧
    (∀ off : Offset, ∃ u, exec (.rdChdata off) t = .next u ∧ u.rdata = 0x00000000) ∧
    exec .chunkEncode t = .next { t with err := .noChunk }

/-- 42_chunk_framer R180 over the UTF-8 check of R181 (general knowledge of the spec, log 11): DATA_AS_TEXT answers NO_CHUNK, ENCODING or
OK, and changes only the status. -/
def Obligations.DataAsTextGivesTheVerdict : Prop :=
  decodeCmd 0x00000006 = .dataAsText ∧
  ∀ s : State,
    (s.chValid = false → exec .dataAsText s = .next { s with busy := false, done := true, err := .noChunk, cause := .none }) ∧
    (s.chValid = true → utf8Ok (s.chdataBytes s.chLen.toNat) = false →
      exec .dataAsText s = .next { s with busy := false, done := true, err := .encoding, cause := .none }) ∧
    (s.chValid = true → utf8Ok (s.chdataBytes s.chLen.toNat) = true →
      exec .dataAsText s = .next { s with busy := false, done := true, err := .ok, cause := .none })

/-- 42_chunk_framer R181 (general knowledge of the spec, log 11): `utf8_ok(s)` holds exactly when `s` splits into the forms of the
table. -/
def Obligations.Utf8OkIsSplittingIntoForms : Prop :=
  ∀ s : List Byte, utf8Ok s = true ↔ ∃ parts : List (List Byte), s = parts.flatten ∧ ∀ p ∈ parts, Utf8Sequence p

/-- 42_chunk_framer R181, 93 G5 (general knowledge of the spec, log 11): the accepted strings are exactly the UTF-8 encodings of
sequences of Unicode scalar values, as Lean's own encoder writes them. -/
def Obligations.Utf8OkIsEncodingOfScalars : Prop :=
  ∀ s : List Byte, utf8Ok s = true ↔
    ∃ cs : List Char, s = cs.flatMap fun c => (String.utf8EncodeChar c).map UInt8.toBitVec

/-- 42_chunk_framer R174 (the spec's derived law): after CHUNK_NEW and CHUNK_ENCODE, once the host has copied OBUF to IBUF, CHUNK_DECODE
succeeds and leaves the chunk as it was. -/
def Obligations.ChunkRoundTripsThroughTheFrame : Prop :=
  ∀ s t u v : State, s.ibufLen.toNat ≤ s.dataMax → exec .chunkNew s = .next t → exec .chunkEncode t = .next u →
    v.dataWords = s.dataWords → v.ibufLen = u.obufLen → (∀ i, i < u.obufLen.toNat → v.ibufByte i = u.obufByte i) →
    ∃ w, exec .chunkDecode v = .next w ∧ w.err = .ok ∧ w.chValid = true ∧ w.chType = t.chType ∧ w.chLen = t.chLen ∧
      w.chCrc = t.chCrc ∧ ∀ i, i < t.chLen.toNat → w.chdataByte i = t.chdataByte i

/-- 42_chunk_framer R174 (the spec's derived law), the converse: encoding the chunk of a successful CHUNK_DECODE gives back exactly the
bytes decoded. -/
def Obligations.EncodeGivesBackTheDecodedBytes : Prop :=
  ∀ s t : State, exec .chunkDecode s = .next t → t.err = .ok →
    ∃ u, exec .chunkEncode t = .next u ∧ u.err = .ok ∧ u.obufLen = s.ibufLen ∧
      ∀ i, i < s.ibufLen.toNat → u.obufByte i = s.ibufByte i

/-- 42_chunk_framer R175, 41_crc32 R145 (derived by the spec, resting on its general knowledge, log 11): flip any one bit of a frame
that CHUNK_DECODE accepts, and CHUNK_DECODE fails: with LENGTH_MISMATCH in the length field, with CRC_MISMATCH anywhere else, changing
only the status. -/
def Obligations.DecodeRejectsEverySingleBitFlip : Prop :=
  ∀ (s s' t : State) (i k : Nat), exec .chunkDecode s = .next t → t.err = .ok →
    s'.dataWords = s.dataWords → s'.ibufLen = s.ibufLen → i < s.ibufLen.toNat → k < 8 →
    s'.ibufBytes s.ibufLen.toNat = flipBit (s.ibufBytes s.ibufLen.toNat) i k →
    exec .chunkDecode s' = .next { s' with
      busy := false, done := true,
      err := if i < 4 then .format else .crcMismatch, cause := if i < 4 then .lengthMismatch else .none }

/-- 20_memory R62 item 2: after a CHUNK_ENCODE of a chunk that keeps its invariant, the first word of OBUF reads as the length and the
second as the type, packed like `TAG`. -/
def Obligations.ObufBeginsWithLengthAndType : Prop :=
  ∀ s t : State, s.ChunkOk → s.chValid = true → exec .chunkEncode s = .next t →
    exec (.rdObuf 0) t = .next { t with rdata := s.chLen } ∧ exec (.rdObuf 4) t = .next { t with rdata := s.chType }

/-! ## Errors, completion and interrupt -/

/-- 30_encoding R95: a word with a nonzero `RSVD` field, or an `OPCODE` of 0x00 or above 0x09, is illegal. While BUSY is 0 it is accepted
like a legal one, and its `Complete` step does only `raise ILLEGAL_CMD`, changing only the status. -/
def Obligations.IllegalWordCompletesWithIllegalCmd : Prop :=
  ∀ (w : Word) (s : State),
    (w.extractLsb' 8 24 ≠ 0#24 ∨ w.extractLsb' 0 8 = 0x00#8 ∨ 0x0A#8 ≤ w.extractLsb' 0 8 → decodeCmd w = .illegalCmd w) ∧
    (s.busy = false →
      exec (.wrCmd w) s = .next { s with pend := w, busy := true, done := false, lastOp := w.extractLsb' 0 8 }) ∧
    exec (.illegalCmd w) s = .next { s with busy := false, done := true, err := .illegalCmd, cause := .none }

/-- 30_encoding R100, 60_exceptions R205, D12: every `Complete` step clears BUSY and sets DONE; if it fails, nothing but BUSY, DONE,
ERR and CAUSE changes. -/
def Obligations.FailedCommandChangesOnlyTheStatus : Prop :=
  ∀ (i : Instr) (s : State), i.isCommand = true → ∃ t, exec i s = .next t ∧ t.busy = false ∧ t.done = true ∧
    (t.err ≠ .ok → t = { s with busy := false, done := true, err := t.err, cause := t.cause }) ∧
    (t.err = .ok → t.cause = .none)

/-- 60_exceptions R200, 10_state R30, R31, 30_encoding R94 (the word of a well-formed illegal instruction is not legal), over the CRC and UTF-8 functions (general knowledge of the spec, log 11): which
command raises which error and cause, on which condition; and only a `Complete` step and reset write ERR and CAUSE. -/
def Obligations.ErrorsComeOnlyFromTheListedCommands : Prop :=
  (∀ (i : Instr) (s t : State), i.isCommand = true → exec i s = .next t →
    (t.err = .ok ∧ t.cause = .none) ∨
    (i = .chunkDecode ∧ t.err = .format ∧ t.cause = .frameTooShort ∧ s.ibufLen.toNat < 12) ∨
    (i = .chunkDecode ∧ t.err = .format ∧ t.cause = .lengthMismatch ∧ (be32 (s.ibufSlice 0 4)).toNat ≠ s.ibufLen.toNat - 12) ∨
    (i = .typeFromText ∧ t.err = .format ∧ t.cause = .textLength ∧ s.ibufLen.toNat ≠ 4) ∨
    (i = .typeFromText ∧ t.err = .format ∧ t.cause = .textNotAlpha ∧ ∃ k, k < 4 ∧ ¬IsLetter (s.ibufByte k).toNat) ∨
    (i = .chunkDecode ∧ t.err = .crcMismatch ∧ t.cause = .none ∧
      crc32 (s.ibufSlice 4 (s.ibufLen.toNat - 8)) ≠ be32 (s.ibufSlice (s.ibufLen.toNat - 4) 4)) ∨
    (i = .dataAsText ∧ t.err = .encoding ∧ t.cause = .none ∧ utf8Ok (s.chdataBytes s.chLen.toNat) = false) ∨
    (i = .chunkNew ∧ t.err = .capacity ∧ t.cause = .none ∧ s.dataMax < s.ibufLen.toNat) ∨
    ((i = .chunkDecode ∨ i = .crcAccum) ∧ t.err = .capacity ∧ t.cause = .none ∧ s.ibufMax < s.ibufLen.toNat) ∨
    ((i = .chunkEncode ∨ i = .dataAsText) ∧ t.err = .noChunk ∧ t.cause = .none ∧ s.chValid = false) ∨
    ((∃ w, i = .illegalCmd w ∧
        (i.WellFormed → ¬(w.extractLsb' 8 24 = 0#24 ∧ 0x01#8 ≤ w.extractLsb' 0 8 ∧ w.extractLsb' 0 8 ≤ 0x09#8))) ∧
      t.err = .illegalCmd ∧ t.cause = .none)) ∧
  (∀ s t : State, step s = .next t → (t.err ≠ s.err ∨ t.cause ≠ s.cause) → s.NextIsComplete ∨ s.NextIsReset)

/-- 10_state R49, 60_exceptions R207, R208: `irq` is IE and DONE. It follows every completion when IE is 1; setting IE while DONE is 1
asserts it at once; a W1C of DONE, an acceptance and reset deassert it. -/
def Obligations.IrqFollowsDoneAndEnable : Prop :=
  (∀ s : State, s.irq = (s.ctrlIe && s.done)) ∧
  (∀ (i : Instr) (s t : State), i.isCommand = true → exec i s = .next t → t.irq = s.ctrlIe) ∧
  (∀ (w : Word) (s t : State), exec (.wrCtrl w) s = .next t → t.irq = (w.getLsbD 0 && s.done)) ∧
  (∀ (w : Word) (s t : State), w.getLsbD 1 = true → exec (.wrStatus w) s = .next t → t.irq = false) ∧
  (∀ (w : Word) (s t : State), s.busy = false → exec (.wrCmd w) s = .next t → t.irq = false) ∧
  (∀ s t : State, s.NextIsReset → step s = .next t → t.irq = false)

/-! ## Whole-machine rules: who may change what -/

/-- 10_state R27: only acceptance sets BUSY; only completion or reset clears it, and completion does. -/
def Obligations.BusyRunsFromAcceptanceToCompletion : Prop :=
  ∀ s t : State, step s = .next t →
    (s.busy = false → (t.busy = true ↔ ∃ w, s.NextIsRow (.wrCmd w))) ∧
    (s.busy = true → (t.busy = false ↔ s.NextIsSeq ∨ s.NextIsReset))

/-- 10_state R28: DONE is set at every `Complete` step, cleared by acceptance (a `CMD` write while BUSY is 0), by a
W1C of bit 1 and by reset, and kept by every other step, a blocked `CMD` write among them. -/
def Obligations.DoneIsSetByCompletionOnly : Prop :=
  ∀ s t : State, step s = .next t →
    (s.NextIsComplete → t.done = true) ∧
    (∀ w, s.busy = false → s.NextIsRow (.wrCmd w) → t.done = false) ∧
    (∀ w, s.NextIsRow (.wrStatus w) → t.done = (s.done && !w.getLsbD 1)) ∧
    (s.NextIsReset → t.done = false) ∧
    (t.done ≠ s.done → s.NextIsComplete ∨ (s.busy = false ∧ ∃ w, s.NextIsRow (.wrCmd w)) ∨
      (∃ w, w.getLsbD 1 = true ∧ s.NextIsRow (.wrStatus w)) ∨ s.NextIsReset)

/-- 10_state R29, R35: the chunk register set changes only by a successful CHUNK_NEW or CHUNK_DECODE, which replace it as a whole with the
chunk of 42_chunk_framer R164 or R170 (its CRC function is the spec's general knowledge, log 11), by CHUNK_DISCARD and by reset, which always empty it; no host write and no failed command changes it. The no-chunk invariant is kept. -/
def Obligations.ChunkSetChangesOnlyByItsCommands : Prop :=
  (∀ s t : State, step s = .next t →
    (t.chValid = s.chValid ∧ t.chType = s.chType ∧ t.chLen = s.chLen ∧ t.chCrc = s.chCrc ∧ t.chdata = s.chdata) ∨
    ((s.NextCompletes .chunkNew ∨ s.NextCompletes .chunkDecode) ∧ t.err = .ok ∧ t.chValid = true) ∨
    (s.NextCompletes .chunkDiscard ∧ t.chValid = false ∧ t.chType = 0 ∧ t.chLen = 0 ∧ t.chCrc = 0 ∧ t.chdata = s.chdata) ∨
    (s.NextIsReset ∧ t.chValid = false ∧ t.chType = 0 ∧ t.chLen = 0 ∧ t.chCrc = 0)) ∧
  (∀ s t : State, step s = .next t →
    (s.NextCompletes .chunkNew → t.err = .ok → t.chValid = true ∧ t.chType = s.tag ∧ t.chLen = s.ibufLen ∧
      t.chCrc = crc32 (bytesBe32 s.tag ++ s.ibufSlice 0 s.ibufLen.toNat) ∧
      ∀ i, i < t.chLen.toNat → t.chdataByte i = s.ibufByte i) ∧
    (s.NextCompletes .chunkDecode → t.err = .ok → t.chValid = true ∧ t.chType = be32 (s.ibufSlice 4 4) ∧
      t.chLen = be32 (s.ibufSlice 0 4) ∧ t.chLen.toNat + 12 = s.ibufLen.toNat ∧
      t.chCrc = be32 (s.ibufSlice (s.ibufLen.toNat - 4) 4) ∧ ∀ i, i < t.chLen.toNat → t.chdataByte i = s.ibufByte (8 + i)) ∧
    (s.NextCompletes .chunkDiscard ∨ s.NextIsReset → t.chValid = false ∧ t.chType = 0 ∧ t.chLen = 0 ∧ t.chCrc = 0)) ∧
  (∀ s t : State, s.NoChunkOk → step s = .next t → t.NoChunkOk)

/-- 10_state R32: a bus transaction leaves BUSERR set exactly when it is a misaligned access, an access to a reserved address or a write
to a read-only target, or BUSERR was set and the transaction is not a W1C write of bit 16; nothing else but reset changes BUSERR, and no
command depends on it. -/
def Obligations.BuserrIsStickyAndSetByBadAccesses : Prop :=
  (∀ (s t : State) (tr : Transaction), s.NextIsHost tr → step s = .next t →
    (t.buserr = true ↔ s.BadAccess tr ∨ (s.buserr = true ∧ ¬∃ w, WritesStatus tr w ∧ w.getLsbD 16 = true))) ∧
  (∀ s t : State, s.NextIsSeq → step s = .next t → t.buserr = s.buserr) ∧
  (∀ s t : State, s.NextIsReset → step s = .next t → t.buserr = false) ∧
  (∀ (i : Instr) (s t : State) (b : Bool), i.isCommand = true → exec i s = .next t →
    exec i { s with buserr := b } = .next { t with buserr := b })

/-- 10_state R33: a bus transaction leaves WRBUSY set exactly when it is a write to `CMD`, `TYPE_IN`, `IBUF_LEN` or the IBUF window while
BUSY is 1, which is then ignored, or WRBUSY was set and the transaction is not a W1C write of bit 17; nothing else but reset changes it. -/
def Obligations.WrbusyIsStickyAndSetByBlockedWrites : Prop :=
  (∀ (s t : State) (tr : Transaction), s.NextIsHost tr → step s = .next t →
    (t.wrbusy = true ↔ (s.busy = true ∧ tr.we = true ∧ s.WriteBlockable tr.addr) ∨
      (s.wrbusy = true ∧ ¬∃ w, WritesStatus tr w ∧ w.getLsbD 17 = true)) ∧
    (s.busy = true → tr.we = true → s.WriteBlockable tr.addr → t = { s with wrbusy := true, sched := s.sched.tail })) ∧
  (∀ s t : State, s.NextIsSeq → step s = .next t → t.wrbusy = s.wrbusy) ∧
  (∀ s t : State, s.NextIsReset → step s = .next t → t.wrbusy = false)

/-- 10_state R34: LAST_OP is set to the low byte of a command word when it is accepted, legal or not; nothing else writes it except
reset, which sets 0x00. -/
def Obligations.LastOpRecordsAcceptedWords : Prop :=
  ∀ s t : State, step s = .next t →
    (∀ w, s.busy = false → s.NextIsRow (.wrCmd w) → t.lastOp = w.extractLsb' 0 8) ∧
    (s.NextIsReset → t.lastOp = 0x00) ∧
    (t.lastOp ≠ s.lastOp → s.NextIsReset ∨ (s.busy = false ∧ ∃ w, s.NextIsRow (.wrCmd w)))

/-- 10_state R40, R43, R45, 41_crc32 R155, D28: `TAG` is written only by the two tag commands, OBUF and `OBUF_LEN` only by CHUNK_ENCODE,
`CRC_ACC` only by the two generator commands, and each of them by reset. -/
def Obligations.ResultRegistersHaveTheirOwnWriters : Prop :=
  ∀ s t : State, step s = .next t →
    (t.tag ≠ s.tag → s.NextCompletes .typeFromBytes ∨ s.NextCompletes .typeFromText ∨ s.NextIsReset) ∧
    (t.obufLen ≠ s.obufLen ∨ t.obuf ≠ s.obuf → s.NextCompletes .chunkEncode ∨ s.NextIsReset) ∧
    (t.crcAcc ≠ s.crcAcc → s.NextCompletes .crcClear ∨ s.NextCompletes .crcAccum ∨ s.NextIsReset)

/-- 10_state R25, R41, R42, 20_memory R60: IE, `TYPE_IN`, `IBUF_LEN` and IBUF are written by the host alone, each at its own address, and
by reset; the staging ones only while BUSY is 0. -/
def Obligations.StagingStateIsWrittenByTheHostAlone : Prop :=
  ∀ s t : State, step s = .next t →
    (t.ctrlIe ≠ s.ctrlIe → s.NextIsReset ∨ ∃ w, s.NextIsRow (.wrCtrl w)) ∧
    (t.typeIn ≠ s.typeIn → s.NextIsReset ∨ (s.busy = false ∧ ∃ w, s.NextIsRow (.wrTypeIn w))) ∧
    (t.ibufLen ≠ s.ibufLen → s.NextIsReset ∨ (s.busy = false ∧ ∃ w, s.NextIsRow (.wrIbufLen w))) ∧
    (t.ibuf ≠ s.ibuf → s.NextIsReset ∨ (s.busy = false ∧ ∃ off w, s.NextIsRow (.wrIbuf off w)))

/-! ## Invariants and runs -/

/-- 70_reset_and_hazards R230: the machine's invariant holds right after reset. -/
def Obligations.InvariantHoldsAtReset : Prop := State.reset.Inv

/-- 10_state R35, R36, 20_memory R60, R76, R77: every step keeps the machine's invariant: canonical and bounded storage, the no-chunk and
chunk invariants, a frame that fits, no unwritten byte visible, matching codes, and the facts of a command in flight. -/
def Obligations.StepKeepsTheInvariant : Prop :=
  ∀ s t : State, s.Inv → step s = .next t → t.Inv

/-- 10_state R36, 42_chunk_framer R172 (the spec's derived invariant): the chunk invariant alone is kept by every step, from every state
that has it, whatever else that state holds. -/
def Obligations.StepKeepsTheChunkInvariant : Prop :=
  ∀ s t : State, s.ChunkOk → step s = .next t → t.ChunkOk

/-- 42_chunk_framer R174, 20_memory R76 (derived by the spec): with the chunk invariant, OBUF always holds nothing or a frame that
`deframe` accepts. -/
def Obligations.ObufAlwaysHoldsAnAcceptedFrame : Prop :=
  ∀ s t : State, s.ChunkOk → s.ObufHoldsFrame → step s = .next t → t.ObufHoldsFrame

/-- 20_memory R69, R72, 70_reset_and_hazards R241 (derived by the spec): while a command is in flight, no host transaction changes any of
its inputs, or any result register. -/
def Obligations.HostCannotTouchACommandInFlight : Prop :=
  ∀ (s t : State) (tr : Transaction), s.busy = true → s.NextIsHost tr → step s = .next t →
    s.SameInputs t ∧ t.busy = true ∧ t.err = s.err ∧ t.cause = s.cause

/-- 20_memory R68, R69, 30_encoding R104 (derived by the spec): latency does not change results. Let any host transactions come between
a command in flight and its completion; the command ends with the same results as if it had completed at once. -/
def Obligations.LatencyDoesNotChangeResults : Prop :=
  ∀ (s t u : State) (ts : List Transaction), s.busy = true →
    Host.Core.run core 1 { s with sched := [.seq] } = .next t →
    Host.Core.run core (ts.length + 1) { s with sched := ts.map .host ++ [.seq] } = .next u →
    t.SameResults u

/-- 20_memory R68, 70_reset_and_hazards R245: every accepted command eventually completes unless reset intervenes: within one step more than
the moves still to come. The schedule is the model's (log 5). -/
def Obligations.AcceptedCommandCompletesUnlessReset : Prop :=
  ∀ s : State, s.busy = true → .rst ∉ s.sched →
    ∃ k t, k ≤ s.sched.length + 1 ∧ Host.Core.run core k s = .next t ∧ t.busy = false ∧ t.done = true
end

