-- ==== Sys2Proof/Laws/Decode.lean ====
section
/-! SUPPORT. The fields of an address and of a command word as numbers, and the cases of the decoder, so that no proof unfolds it. -/

namespace Sys2Proof

theorem alignBits_eq_iff (a : Word) (k : Nat) (hk : k < 4) : alignBits a = BitVec.ofNat 2 k ↔ a.toNat % 4 = k := by
  rw [← BitVec.toNat_inj]
  simp only [alignBits, BitVec.extractLsb'_toNat, Nat.shiftRight_zero, BitVec.toNat_ofNat]
  omega

theorem regionBits_eq_iff (a : Word) (k : Nat) (hk : k < 4) : regionBits a = BitVec.ofNat 2 k ↔ a.toNat / 2 ^ 30 = k := by
  rw [← BitVec.toNat_inj]
  simp only [regionBits, BitVec.extractLsb'_toNat, Nat.shiftRight_eq_div_pow, BitVec.toNat_ofNat]
  omega

@[simp] theorem offsetBits_toNat (a : Word) : (offsetBits a).toNat = a.toNat % 2 ^ 30 := by
  simp [offsetBits]

@[simp] theorem addressOf_toNat (r : BitVec 2) (off : Offset) : (addressOf r off).toNat = r.toNat * 2 ^ 30 + off.toNat := by
  simp only [addressOf, BitVec.toNat_append]
  rw [Nat.shiftLeft_eq, Nat.mul_comm, ← Nat.two_pow_add_eq_or_of_lt off.isLt]

/-- An address is its region and its offset. -/
theorem addressOf_regionBits_offsetBits (a : Word) : addressOf (regionBits a) (offsetBits a) = a := by
  rw [← BitVec.toNat_inj, addressOf_toNat, offsetBits_toNat]
  simp only [regionBits, BitVec.extractLsb'_toNat, Nat.shiftRight_eq_div_pow]
  omega

theorem offsetBits_addressOf (r : BitVec 2) (off : Offset) : offsetBits (addressOf r off) = off := by
  rw [← BitVec.toNat_inj, offsetBits_toNat, addressOf_toNat]
  omega

theorem regionBits_addressOf (r : BitVec 2) (off : Offset) : regionBits (addressOf r off) = r := by
  rw [← BitVec.toNat_inj]
  simp only [regionBits, BitVec.extractLsb'_toNat, Nat.shiftRight_eq_div_pow, addressOf_toNat]
  omega

/-- The register map and the offsets of the registers are inverse to each other. -/
theorem regAt_eq_some_iff (off : Offset) (r : Reg) : regAt off = some r ↔ off = r.offset := by
  constructor
  · intro h
    simp only [regAt, regMap, List.lookup] at h
    repeat' split at h
    all_goals first
      | (simp only [Option.some.injEq] at h; subst h; rename_i hb; simpa [Reg.offset] using hb)
      | cases h
  · rintro rfl
    cases r <;> rfl

/-- An aligned offset that is no register's is 0x40 or more. -/
theorem regAt_eq_none (off : Offset) (ha : off.toNat % 4 = 0) : regAt off = none ↔ 0x40 ≤ off.toNat := by
  constructor
  · intro h
    by_contra hlt
    have h4 : ∃ k, k < 16 ∧ off.toNat = 4 * k := ⟨off.toNat / 4, by omega, by omega⟩
    obtain ⟨k, hk, he⟩ := h4
    have : off = BitVec.ofNat 30 (4 * k) := by
      rw [← BitVec.toNat_inj, he, BitVec.toNat_ofNat]
      omega
    subst this
    interval_cases k <;> simp [regAt, regMap, List.lookup] at h
  · intro h
    cases hr : regAt off with
    | none => rfl
    | some r =>
      rw [(regAt_eq_some_iff off r).mp hr] at h
      cases r <;> simp [Reg.offset] at h

/-- The kinds of address that 30_encoding R96 tells apart, with what the decoder sees of each. -/
theorem address_cases (a : Word) :
    (a.toNat % 4 = 1 ∧ alignBits a = 1) ∨ (a.toNat % 4 = 2 ∧ alignBits a = 2) ∨ (a.toNat % 4 = 3 ∧ alignBits a = 3) ∨
    (a.toNat % 4 = 0 ∧ alignBits a = 0 ∧
      ((∃ r : Reg, a = addressOf 0 r.offset ∧ regionBits a = 0 ∧ regAt (offsetBits a) = some r) ∨
       (a.toNat / 2 ^ 30 = 0 ∧ 0x40 ≤ a.toNat % 2 ^ 30 ∧ regionBits a = 0 ∧ regAt (offsetBits a) = none) ∨
       (a.toNat / 2 ^ 30 = 1 ∧ regionBits a = 1) ∨ (a.toNat / 2 ^ 30 = 2 ∧ regionBits a = 2) ∨
       (a.toNat / 2 ^ 30 = 3 ∧ regionBits a = 3))) := by
  have ha := fun k hk => (alignBits_eq_iff a k hk).mpr
  have hr := fun k hk => (regionBits_eq_iff a k hk).mpr
  have hlt := a.isLt
  have h4 : a.toNat % 4 = 0 ∨ a.toNat % 4 = 1 ∨ a.toNat % 4 = 2 ∨ a.toNat % 4 = 3 := by omega
  rcases h4 with h | h | h | h
  · refine .inr (.inr (.inr ⟨h, ha 0 (by omega) h, ?_⟩))
    have h30 : a.toNat / 2 ^ 30 = 0 ∨ a.toNat / 2 ^ 30 = 1 ∨ a.toNat / 2 ^ 30 = 2 ∨ a.toNat / 2 ^ 30 = 3 := by omega
    rcases h30 with g | g | g | g
    · have hr0 : regionBits a = 0 := hr 0 (by omega) g
      cases hreg : regAt (offsetBits a) with
      | some r =>
        refine .inl ⟨r, ?_, hr0, rfl⟩
        rw [← (regAt_eq_some_iff _ r).mp hreg, ← hr0]
        exact (addressOf_regionBits_offsetBits a).symm
      | none =>
        refine .inr (.inl ⟨g, ?_, hr0, rfl⟩)
        have := (regAt_eq_none (offsetBits a) (by simp; omega)).mp hreg
        simpa using this
    · exact .inr (.inr (.inl ⟨g, hr 1 (by omega) g⟩))
    · exact .inr (.inr (.inr (.inl ⟨g, hr 2 (by omega) g⟩)))
    · exact .inr (.inr (.inr (.inr ⟨g, hr 3 (by omega) g⟩)))
  · exact .inl ⟨h, ha 1 (by omega) h⟩
  · exact .inr (.inl ⟨h, ha 2 (by omega) h⟩)
  · exact .inr (.inr (.inl ⟨h, ha 3 (by omega) h⟩))

/-- What a bus read can decode to. -/
theorem decodeRead_cases (a : Word) :
    (a.toNat % 4 = 1 ∧ decodeRead a = .rdMisaligned1 a) ∨ (a.toNat % 4 = 2 ∧ decodeRead a = .rdMisaligned2 a) ∨
    (a.toNat % 4 = 3 ∧ decodeRead a = .rdMisaligned3 a) ∨
    (a.toNat % 4 = 0 ∧
      ((∃ r : Reg, a = addressOf 0 r.offset ∧ decodeRead a = r.readRow) ∨
       (a.toNat / 2 ^ 30 = 0 ∧ 0x40 ≤ a.toNat % 2 ^ 30 ∧ decodeRead a = .rdRegReserved (offsetBits a)) ∨
       (a.toNat / 2 ^ 30 = 1 ∧ decodeRead a = .rdIbuf (offsetBits a)) ∨
       (a.toNat / 2 ^ 30 = 2 ∧ decodeRead a = .rdChdata (offsetBits a)) ∨
       (a.toNat / 2 ^ 30 = 3 ∧ decodeRead a = .rdObuf (offsetBits a)))) := by
  rcases address_cases a with ⟨h, e⟩ | ⟨h, e⟩ | ⟨h, e⟩ | ⟨h, e, ⟨r, hr, g, k⟩ | ⟨hr, ho, g, k⟩ | ⟨hr, g⟩ | ⟨hr, g⟩ | ⟨hr, g⟩⟩
  · exact .inl ⟨h, by simp [decodeRead, e]⟩
  · exact .inr (.inl ⟨h, by simp [decodeRead, e]⟩)
  · exact .inr (.inr (.inl ⟨h, by simp [decodeRead, e]⟩))
  · exact .inr (.inr (.inr ⟨h, .inl ⟨r, hr, by simp [decodeRead, e, g, k]⟩⟩))
  · exact .inr (.inr (.inr ⟨h, .inr (.inl ⟨hr, ho, by simp [decodeRead, e, g, k]⟩)⟩))
  · exact .inr (.inr (.inr ⟨h, .inr (.inr (.inl ⟨hr, by simp [decodeRead, e, g]⟩))⟩))
  · exact .inr (.inr (.inr ⟨h, .inr (.inr (.inr (.inl ⟨hr, by simp [decodeRead, e, g]⟩)))⟩))
  · exact .inr (.inr (.inr ⟨h, .inr (.inr (.inr (.inr ⟨hr, by simp [decodeRead, e, g]⟩)))⟩))

/-- What a bus write can decode to. -/
theorem decodeWrite_cases (a w : Word) :
    (a.toNat % 4 = 1 ∧ decodeWrite a w = .wrMisaligned1 a w) ∨ (a.toNat % 4 = 2 ∧ decodeWrite a w = .wrMisaligned2 a w) ∨
    (a.toNat % 4 = 3 ∧ decodeWrite a w = .wrMisaligned3 a w) ∨
    (a.toNat % 4 = 0 ∧
      ((∃ r : Reg, a = addressOf 0 r.offset ∧ decodeWrite a w = r.writeRow w) ∨
       (a.toNat / 2 ^ 30 = 0 ∧ 0x40 ≤ a.toNat % 2 ^ 30 ∧ decodeWrite a w = .wrRegReserved (offsetBits a) w) ∨
       (a.toNat / 2 ^ 30 = 1 ∧ decodeWrite a w = .wrIbuf (offsetBits a) w) ∨
       (a.toNat / 2 ^ 30 = 2 ∧ decodeWrite a w = .wrChdata (offsetBits a) w) ∨
       (a.toNat / 2 ^ 30 = 3 ∧ decodeWrite a w = .wrObuf (offsetBits a) w))) := by
  rcases address_cases a with ⟨h, e⟩ | ⟨h, e⟩ | ⟨h, e⟩ | ⟨h, e, ⟨r, hr, g, k⟩ | ⟨hr, ho, g, k⟩ | ⟨hr, g⟩ | ⟨hr, g⟩ | ⟨hr, g⟩⟩
  · exact .inl ⟨h, by simp [decodeWrite, e]⟩
  · exact .inr (.inl ⟨h, by simp [decodeWrite, e]⟩)
  · exact .inr (.inr (.inl ⟨h, by simp [decodeWrite, e]⟩))
  · exact .inr (.inr (.inr ⟨h, .inl ⟨r, hr, by simp [decodeWrite, e, g, k]⟩⟩))
  · exact .inr (.inr (.inr ⟨h, .inr (.inl ⟨hr, ho, by simp [decodeWrite, e, g, k]⟩)⟩))
  · exact .inr (.inr (.inr ⟨h, .inr (.inr (.inl ⟨hr, by simp [decodeWrite, e, g]⟩))⟩))
  · exact .inr (.inr (.inr ⟨h, .inr (.inr (.inr (.inl ⟨hr, by simp [decodeWrite, e, g]⟩)))⟩))
  · exact .inr (.inr (.inr ⟨h, .inr (.inr (.inr (.inr ⟨hr, by simp [decodeWrite, e, g]⟩)))⟩))

/-- What a command word can decode to. -/
theorem decodeCmd_cases (w : Word) :
    (w = 0x1#32 ∧ decodeCmd w = .typeFromBytes) ∨ (w = 0x2#32 ∧ decodeCmd w = .typeFromText) ∨
    (w = 0x3#32 ∧ decodeCmd w = .chunkNew) ∨ (w = 0x4#32 ∧ decodeCmd w = .chunkDecode) ∨
    (w = 0x5#32 ∧ decodeCmd w = .chunkEncode) ∨ (w = 0x6#32 ∧ decodeCmd w = .dataAsText) ∨
    (w = 0x7#32 ∧ decodeCmd w = .chunkDiscard) ∨ (w = 0x8#32 ∧ decodeCmd w = .crcClear) ∨
    (w = 0x9#32 ∧ decodeCmd w = .crcAccum) ∨ (¬(1 ≤ w.toNat ∧ w.toNat ≤ 9) ∧ decodeCmd w = .illegalCmd w) := by
  by_cases hw : 1 ≤ w.toNat ∧ w.toNat ≤ 9
  · have e : w = BitVec.ofNat 32 w.toNat := by simp
    obtain ⟨h1, h2⟩ := hw
    generalize hk : w.toNat = k at e h1 h2
    subst e
    interval_cases k <;> simp [decodeCmd, rsvdBits, opcodeBits]
  · refine .inr (.inr (.inr (.inr (.inr (.inr (.inr (.inr (.inr ⟨hw, ?_⟩))))))))
    unfold decodeCmd
    split
    · next h =>
      have h8 : w.toNat / 2 ^ 8 = 0 := by
        have := congrArg BitVec.toNat h
        simp only [rsvdBits, BitVec.extractLsb'_toNat, Nat.shiftRight_eq_div_pow] at this
        replace this : w.toNat / 2 ^ 8 % 2 ^ 24 = 0 := this
        have hl := w.isLt
        omega
      have ho : (opcodeBits w).toNat = w.toNat := by
        simp only [opcodeBits, BitVec.extractLsb'_toNat, Nat.shiftRight_zero]
        omega
      rw [ho]
      split <;> first | rfl | (exfalso; omega)
    · rfl

end Sys2Proof
end

