-- ==== Sys2Proof/Laws/State.lean ====
section
/-! SUPPORT. Every field after every named update of the state, one lemma each, so that no proof unfolds a record update. -/

namespace Sys2Proof.Machine

/-! ### reply -/

@[simp] theorem State.reply_ctrlIe (s : State) (v : Word) : (s.reply v).ctrlIe = s.ctrlIe := rfl
@[simp] theorem State.reply_busy (s : State) (v : Word) : (s.reply v).busy = s.busy := rfl
@[simp] theorem State.reply_done (s : State) (v : Word) : (s.reply v).done = s.done := rfl
@[simp] theorem State.reply_chValid (s : State) (v : Word) : (s.reply v).chValid = s.chValid := rfl
@[simp] theorem State.reply_buserr (s : State) (v : Word) : (s.reply v).buserr = s.buserr := rfl
@[simp] theorem State.reply_wrbusy (s : State) (v : Word) : (s.reply v).wrbusy = s.wrbusy := rfl
@[simp] theorem State.reply_err (s : State) (v : Word) : (s.reply v).err = s.err := rfl
@[simp] theorem State.reply_cause (s : State) (v : Word) : (s.reply v).cause = s.cause := rfl
@[simp] theorem State.reply_lastOp (s : State) (v : Word) : (s.reply v).lastOp = s.lastOp := rfl
@[simp] theorem State.reply_pend (s : State) (v : Word) : (s.reply v).pend = s.pend := rfl
@[simp] theorem State.reply_typeIn (s : State) (v : Word) : (s.reply v).typeIn = s.typeIn := rfl
@[simp] theorem State.reply_ibufLen (s : State) (v : Word) : (s.reply v).ibufLen = s.ibufLen := rfl
@[simp] theorem State.reply_tag (s : State) (v : Word) : (s.reply v).tag = s.tag := rfl
@[simp] theorem State.reply_chType (s : State) (v : Word) : (s.reply v).chType = s.chType := rfl
@[simp] theorem State.reply_chLen (s : State) (v : Word) : (s.reply v).chLen = s.chLen := rfl
@[simp] theorem State.reply_chCrc (s : State) (v : Word) : (s.reply v).chCrc = s.chCrc := rfl
@[simp] theorem State.reply_obufLen (s : State) (v : Word) : (s.reply v).obufLen = s.obufLen := rfl
@[simp] theorem State.reply_crcAcc (s : State) (v : Word) : (s.reply v).crcAcc = s.crcAcc := rfl
@[simp] theorem State.reply_ibuf (s : State) (v : Word) : (s.reply v).ibuf = s.ibuf := rfl
@[simp] theorem State.reply_chdata (s : State) (v : Word) : (s.reply v).chdata = s.chdata := rfl
@[simp] theorem State.reply_obuf (s : State) (v : Word) : (s.reply v).obuf = s.obuf := rfl
@[simp] theorem State.reply_dataWords (s : State) (v : Word) : (s.reply v).dataWords = s.dataWords := rfl
@[simp] theorem State.reply_draw (s : State) (v : Word) : (s.reply v).draw = s.draw := rfl
@[simp] theorem State.reply_rdata (s : State) (v : Word) : (s.reply v).rdata = v := rfl
@[simp] theorem State.reply_sched (s : State) (v : Word) : (s.reply v).sched = s.sched := rfl

/-! ### flagBuserr -/

@[simp] theorem State.flagBuserr_ctrlIe (s : State) : s.flagBuserr.ctrlIe = s.ctrlIe := rfl
@[simp] theorem State.flagBuserr_busy (s : State) : s.flagBuserr.busy = s.busy := rfl
@[simp] theorem State.flagBuserr_done (s : State) : s.flagBuserr.done = s.done := rfl
@[simp] theorem State.flagBuserr_chValid (s : State) : s.flagBuserr.chValid = s.chValid := rfl
@[simp] theorem State.flagBuserr_buserr (s : State) : s.flagBuserr.buserr = true := rfl
@[simp] theorem State.flagBuserr_wrbusy (s : State) : s.flagBuserr.wrbusy = s.wrbusy := rfl
@[simp] theorem State.flagBuserr_err (s : State) : s.flagBuserr.err = s.err := rfl
@[simp] theorem State.flagBuserr_cause (s : State) : s.flagBuserr.cause = s.cause := rfl
@[simp] theorem State.flagBuserr_lastOp (s : State) : s.flagBuserr.lastOp = s.lastOp := rfl
@[simp] theorem State.flagBuserr_pend (s : State) : s.flagBuserr.pend = s.pend := rfl
@[simp] theorem State.flagBuserr_typeIn (s : State) : s.flagBuserr.typeIn = s.typeIn := rfl
@[simp] theorem State.flagBuserr_ibufLen (s : State) : s.flagBuserr.ibufLen = s.ibufLen := rfl
@[simp] theorem State.flagBuserr_tag (s : State) : s.flagBuserr.tag = s.tag := rfl
@[simp] theorem State.flagBuserr_chType (s : State) : s.flagBuserr.chType = s.chType := rfl
@[simp] theorem State.flagBuserr_chLen (s : State) : s.flagBuserr.chLen = s.chLen := rfl
@[simp] theorem State.flagBuserr_chCrc (s : State) : s.flagBuserr.chCrc = s.chCrc := rfl
@[simp] theorem State.flagBuserr_obufLen (s : State) : s.flagBuserr.obufLen = s.obufLen := rfl
@[simp] theorem State.flagBuserr_crcAcc (s : State) : s.flagBuserr.crcAcc = s.crcAcc := rfl
@[simp] theorem State.flagBuserr_ibuf (s : State) : s.flagBuserr.ibuf = s.ibuf := rfl
@[simp] theorem State.flagBuserr_chdata (s : State) : s.flagBuserr.chdata = s.chdata := rfl
@[simp] theorem State.flagBuserr_obuf (s : State) : s.flagBuserr.obuf = s.obuf := rfl
@[simp] theorem State.flagBuserr_dataWords (s : State) : s.flagBuserr.dataWords = s.dataWords := rfl
@[simp] theorem State.flagBuserr_draw (s : State) : s.flagBuserr.draw = s.draw := rfl
@[simp] theorem State.flagBuserr_rdata (s : State) : s.flagBuserr.rdata = s.rdata := rfl
@[simp] theorem State.flagBuserr_sched (s : State) : s.flagBuserr.sched = s.sched := rfl

/-! ### flagWrbusy -/

@[simp] theorem State.flagWrbusy_ctrlIe (s : State) : s.flagWrbusy.ctrlIe = s.ctrlIe := rfl
@[simp] theorem State.flagWrbusy_busy (s : State) : s.flagWrbusy.busy = s.busy := rfl
@[simp] theorem State.flagWrbusy_done (s : State) : s.flagWrbusy.done = s.done := rfl
@[simp] theorem State.flagWrbusy_chValid (s : State) : s.flagWrbusy.chValid = s.chValid := rfl
@[simp] theorem State.flagWrbusy_buserr (s : State) : s.flagWrbusy.buserr = s.buserr := rfl
@[simp] theorem State.flagWrbusy_wrbusy (s : State) : s.flagWrbusy.wrbusy = true := rfl
@[simp] theorem State.flagWrbusy_err (s : State) : s.flagWrbusy.err = s.err := rfl
@[simp] theorem State.flagWrbusy_cause (s : State) : s.flagWrbusy.cause = s.cause := rfl
@[simp] theorem State.flagWrbusy_lastOp (s : State) : s.flagWrbusy.lastOp = s.lastOp := rfl
@[simp] theorem State.flagWrbusy_pend (s : State) : s.flagWrbusy.pend = s.pend := rfl
@[simp] theorem State.flagWrbusy_typeIn (s : State) : s.flagWrbusy.typeIn = s.typeIn := rfl
@[simp] theorem State.flagWrbusy_ibufLen (s : State) : s.flagWrbusy.ibufLen = s.ibufLen := rfl
@[simp] theorem State.flagWrbusy_tag (s : State) : s.flagWrbusy.tag = s.tag := rfl
@[simp] theorem State.flagWrbusy_chType (s : State) : s.flagWrbusy.chType = s.chType := rfl
@[simp] theorem State.flagWrbusy_chLen (s : State) : s.flagWrbusy.chLen = s.chLen := rfl
@[simp] theorem State.flagWrbusy_chCrc (s : State) : s.flagWrbusy.chCrc = s.chCrc := rfl
@[simp] theorem State.flagWrbusy_obufLen (s : State) : s.flagWrbusy.obufLen = s.obufLen := rfl
@[simp] theorem State.flagWrbusy_crcAcc (s : State) : s.flagWrbusy.crcAcc = s.crcAcc := rfl
@[simp] theorem State.flagWrbusy_ibuf (s : State) : s.flagWrbusy.ibuf = s.ibuf := rfl
@[simp] theorem State.flagWrbusy_chdata (s : State) : s.flagWrbusy.chdata = s.chdata := rfl
@[simp] theorem State.flagWrbusy_obuf (s : State) : s.flagWrbusy.obuf = s.obuf := rfl
@[simp] theorem State.flagWrbusy_dataWords (s : State) : s.flagWrbusy.dataWords = s.dataWords := rfl
@[simp] theorem State.flagWrbusy_draw (s : State) : s.flagWrbusy.draw = s.draw := rfl
@[simp] theorem State.flagWrbusy_rdata (s : State) : s.flagWrbusy.rdata = s.rdata := rfl
@[simp] theorem State.flagWrbusy_sched (s : State) : s.flagWrbusy.sched = s.sched := rfl

/-! ### badRead -/

@[simp] theorem State.badRead_ctrlIe (s : State) : s.badRead.ctrlIe = s.ctrlIe := rfl
@[simp] theorem State.badRead_busy (s : State) : s.badRead.busy = s.busy := rfl
@[simp] theorem State.badRead_done (s : State) : s.badRead.done = s.done := rfl
@[simp] theorem State.badRead_chValid (s : State) : s.badRead.chValid = s.chValid := rfl
@[simp] theorem State.badRead_buserr (s : State) : s.badRead.buserr = true := rfl
@[simp] theorem State.badRead_wrbusy (s : State) : s.badRead.wrbusy = s.wrbusy := rfl
@[simp] theorem State.badRead_err (s : State) : s.badRead.err = s.err := rfl
@[simp] theorem State.badRead_cause (s : State) : s.badRead.cause = s.cause := rfl
@[simp] theorem State.badRead_lastOp (s : State) : s.badRead.lastOp = s.lastOp := rfl
@[simp] theorem State.badRead_pend (s : State) : s.badRead.pend = s.pend := rfl
@[simp] theorem State.badRead_typeIn (s : State) : s.badRead.typeIn = s.typeIn := rfl
@[simp] theorem State.badRead_ibufLen (s : State) : s.badRead.ibufLen = s.ibufLen := rfl
@[simp] theorem State.badRead_tag (s : State) : s.badRead.tag = s.tag := rfl
@[simp] theorem State.badRead_chType (s : State) : s.badRead.chType = s.chType := rfl
@[simp] theorem State.badRead_chLen (s : State) : s.badRead.chLen = s.chLen := rfl
@[simp] theorem State.badRead_chCrc (s : State) : s.badRead.chCrc = s.chCrc := rfl
@[simp] theorem State.badRead_obufLen (s : State) : s.badRead.obufLen = s.obufLen := rfl
@[simp] theorem State.badRead_crcAcc (s : State) : s.badRead.crcAcc = s.crcAcc := rfl
@[simp] theorem State.badRead_ibuf (s : State) : s.badRead.ibuf = s.ibuf := rfl
@[simp] theorem State.badRead_chdata (s : State) : s.badRead.chdata = s.chdata := rfl
@[simp] theorem State.badRead_obuf (s : State) : s.badRead.obuf = s.obuf := rfl
@[simp] theorem State.badRead_dataWords (s : State) : s.badRead.dataWords = s.dataWords := rfl
@[simp] theorem State.badRead_draw (s : State) : s.badRead.draw = s.draw := rfl
@[simp] theorem State.badRead_rdata (s : State) : s.badRead.rdata = 0 := rfl
@[simp] theorem State.badRead_sched (s : State) : s.badRead.sched = s.sched := rfl

/-! ### clearStatus -/

@[simp] theorem State.clearStatus_ctrlIe (s : State) (w : Word) : (s.clearStatus w).ctrlIe = s.ctrlIe := rfl
@[simp] theorem State.clearStatus_busy (s : State) (w : Word) : (s.clearStatus w).busy = s.busy := rfl
@[simp] theorem State.clearStatus_done (s : State) (w : Word) : (s.clearStatus w).done = (s.done && !w.getLsbD 1) := rfl
@[simp] theorem State.clearStatus_chValid (s : State) (w : Word) : (s.clearStatus w).chValid = s.chValid := rfl
@[simp] theorem State.clearStatus_buserr (s : State) (w : Word) : (s.clearStatus w).buserr = (s.buserr && !w.getLsbD 16) := rfl
@[simp] theorem State.clearStatus_wrbusy (s : State) (w : Word) : (s.clearStatus w).wrbusy = (s.wrbusy && !w.getLsbD 17) := rfl
@[simp] theorem State.clearStatus_err (s : State) (w : Word) : (s.clearStatus w).err = s.err := rfl
@[simp] theorem State.clearStatus_cause (s : State) (w : Word) : (s.clearStatus w).cause = s.cause := rfl
@[simp] theorem State.clearStatus_lastOp (s : State) (w : Word) : (s.clearStatus w).lastOp = s.lastOp := rfl
@[simp] theorem State.clearStatus_pend (s : State) (w : Word) : (s.clearStatus w).pend = s.pend := rfl
@[simp] theorem State.clearStatus_typeIn (s : State) (w : Word) : (s.clearStatus w).typeIn = s.typeIn := rfl
@[simp] theorem State.clearStatus_ibufLen (s : State) (w : Word) : (s.clearStatus w).ibufLen = s.ibufLen := rfl
@[simp] theorem State.clearStatus_tag (s : State) (w : Word) : (s.clearStatus w).tag = s.tag := rfl
@[simp] theorem State.clearStatus_chType (s : State) (w : Word) : (s.clearStatus w).chType = s.chType := rfl
@[simp] theorem State.clearStatus_chLen (s : State) (w : Word) : (s.clearStatus w).chLen = s.chLen := rfl
@[simp] theorem State.clearStatus_chCrc (s : State) (w : Word) : (s.clearStatus w).chCrc = s.chCrc := rfl
@[simp] theorem State.clearStatus_obufLen (s : State) (w : Word) : (s.clearStatus w).obufLen = s.obufLen := rfl
@[simp] theorem State.clearStatus_crcAcc (s : State) (w : Word) : (s.clearStatus w).crcAcc = s.crcAcc := rfl
@[simp] theorem State.clearStatus_ibuf (s : State) (w : Word) : (s.clearStatus w).ibuf = s.ibuf := rfl
@[simp] theorem State.clearStatus_chdata (s : State) (w : Word) : (s.clearStatus w).chdata = s.chdata := rfl
@[simp] theorem State.clearStatus_obuf (s : State) (w : Word) : (s.clearStatus w).obuf = s.obuf := rfl
@[simp] theorem State.clearStatus_dataWords (s : State) (w : Word) : (s.clearStatus w).dataWords = s.dataWords := rfl
@[simp] theorem State.clearStatus_draw (s : State) (w : Word) : (s.clearStatus w).draw = s.draw := rfl
@[simp] theorem State.clearStatus_rdata (s : State) (w : Word) : (s.clearStatus w).rdata = s.rdata := rfl
@[simp] theorem State.clearStatus_sched (s : State) (w : Word) : (s.clearStatus w).sched = s.sched := rfl

/-! ### accept -/

@[simp] theorem State.accept_ctrlIe (s : State) (w : Word) : (s.accept w).ctrlIe = s.ctrlIe := rfl
@[simp] theorem State.accept_busy (s : State) (w : Word) : (s.accept w).busy = true := rfl
@[simp] theorem State.accept_done (s : State) (w : Word) : (s.accept w).done = false := rfl
@[simp] theorem State.accept_chValid (s : State) (w : Word) : (s.accept w).chValid = s.chValid := rfl
@[simp] theorem State.accept_buserr (s : State) (w : Word) : (s.accept w).buserr = s.buserr := rfl
@[simp] theorem State.accept_wrbusy (s : State) (w : Word) : (s.accept w).wrbusy = s.wrbusy := rfl
@[simp] theorem State.accept_err (s : State) (w : Word) : (s.accept w).err = s.err := rfl
@[simp] theorem State.accept_cause (s : State) (w : Word) : (s.accept w).cause = s.cause := rfl
@[simp] theorem State.accept_lastOp (s : State) (w : Word) : (s.accept w).lastOp = w.extractLsb' 0 8 := rfl
@[simp] theorem State.accept_pend (s : State) (w : Word) : (s.accept w).pend = w := rfl
@[simp] theorem State.accept_typeIn (s : State) (w : Word) : (s.accept w).typeIn = s.typeIn := rfl
@[simp] theorem State.accept_ibufLen (s : State) (w : Word) : (s.accept w).ibufLen = s.ibufLen := rfl
@[simp] theorem State.accept_tag (s : State) (w : Word) : (s.accept w).tag = s.tag := rfl
@[simp] theorem State.accept_chType (s : State) (w : Word) : (s.accept w).chType = s.chType := rfl
@[simp] theorem State.accept_chLen (s : State) (w : Word) : (s.accept w).chLen = s.chLen := rfl
@[simp] theorem State.accept_chCrc (s : State) (w : Word) : (s.accept w).chCrc = s.chCrc := rfl
@[simp] theorem State.accept_obufLen (s : State) (w : Word) : (s.accept w).obufLen = s.obufLen := rfl
@[simp] theorem State.accept_crcAcc (s : State) (w : Word) : (s.accept w).crcAcc = s.crcAcc := rfl
@[simp] theorem State.accept_ibuf (s : State) (w : Word) : (s.accept w).ibuf = s.ibuf := rfl
@[simp] theorem State.accept_chdata (s : State) (w : Word) : (s.accept w).chdata = s.chdata := rfl
@[simp] theorem State.accept_obuf (s : State) (w : Word) : (s.accept w).obuf = s.obuf := rfl
@[simp] theorem State.accept_dataWords (s : State) (w : Word) : (s.accept w).dataWords = s.dataWords := rfl
@[simp] theorem State.accept_draw (s : State) (w : Word) : (s.accept w).draw = s.draw := rfl
@[simp] theorem State.accept_rdata (s : State) (w : Word) : (s.accept w).rdata = s.rdata := rfl
@[simp] theorem State.accept_sched (s : State) (w : Word) : (s.accept w).sched = s.sched := rfl

/-! ### retire -/

@[simp] theorem State.retire_ctrlIe (s : State) (e : Err) (c : Cause) : (s.retire e c).ctrlIe = s.ctrlIe := rfl
@[simp] theorem State.retire_busy (s : State) (e : Err) (c : Cause) : (s.retire e c).busy = false := rfl
@[simp] theorem State.retire_done (s : State) (e : Err) (c : Cause) : (s.retire e c).done = true := rfl
@[simp] theorem State.retire_chValid (s : State) (e : Err) (c : Cause) : (s.retire e c).chValid = s.chValid := rfl
@[simp] theorem State.retire_buserr (s : State) (e : Err) (c : Cause) : (s.retire e c).buserr = s.buserr := rfl
@[simp] theorem State.retire_wrbusy (s : State) (e : Err) (c : Cause) : (s.retire e c).wrbusy = s.wrbusy := rfl
@[simp] theorem State.retire_err (s : State) (e : Err) (c : Cause) : (s.retire e c).err = e := rfl
@[simp] theorem State.retire_cause (s : State) (e : Err) (c : Cause) : (s.retire e c).cause = c := rfl
@[simp] theorem State.retire_lastOp (s : State) (e : Err) (c : Cause) : (s.retire e c).lastOp = s.lastOp := rfl
@[simp] theorem State.retire_pend (s : State) (e : Err) (c : Cause) : (s.retire e c).pend = s.pend := rfl
@[simp] theorem State.retire_typeIn (s : State) (e : Err) (c : Cause) : (s.retire e c).typeIn = s.typeIn := rfl
@[simp] theorem State.retire_ibufLen (s : State) (e : Err) (c : Cause) : (s.retire e c).ibufLen = s.ibufLen := rfl
@[simp] theorem State.retire_tag (s : State) (e : Err) (c : Cause) : (s.retire e c).tag = s.tag := rfl
@[simp] theorem State.retire_chType (s : State) (e : Err) (c : Cause) : (s.retire e c).chType = s.chType := rfl
@[simp] theorem State.retire_chLen (s : State) (e : Err) (c : Cause) : (s.retire e c).chLen = s.chLen := rfl
@[simp] theorem State.retire_chCrc (s : State) (e : Err) (c : Cause) : (s.retire e c).chCrc = s.chCrc := rfl
@[simp] theorem State.retire_obufLen (s : State) (e : Err) (c : Cause) : (s.retire e c).obufLen = s.obufLen := rfl
@[simp] theorem State.retire_crcAcc (s : State) (e : Err) (c : Cause) : (s.retire e c).crcAcc = s.crcAcc := rfl
@[simp] theorem State.retire_ibuf (s : State) (e : Err) (c : Cause) : (s.retire e c).ibuf = s.ibuf := rfl
@[simp] theorem State.retire_chdata (s : State) (e : Err) (c : Cause) : (s.retire e c).chdata = s.chdata := rfl
@[simp] theorem State.retire_obuf (s : State) (e : Err) (c : Cause) : (s.retire e c).obuf = s.obuf := rfl
@[simp] theorem State.retire_dataWords (s : State) (e : Err) (c : Cause) : (s.retire e c).dataWords = s.dataWords := rfl
@[simp] theorem State.retire_draw (s : State) (e : Err) (c : Cause) : (s.retire e c).draw = s.draw := rfl
@[simp] theorem State.retire_rdata (s : State) (e : Err) (c : Cause) : (s.retire e c).rdata = s.rdata := rfl
@[simp] theorem State.retire_sched (s : State) (e : Err) (c : Cause) : (s.retire e c).sched = s.sched := rfl

/-! ### fail -/

@[simp] theorem State.fail_ctrlIe (s : State) (e : Err) (c : Cause) : (s.fail e c).ctrlIe = s.ctrlIe := rfl
@[simp] theorem State.fail_busy (s : State) (e : Err) (c : Cause) : (s.fail e c).busy = false := rfl
@[simp] theorem State.fail_done (s : State) (e : Err) (c : Cause) : (s.fail e c).done = true := rfl
@[simp] theorem State.fail_chValid (s : State) (e : Err) (c : Cause) : (s.fail e c).chValid = s.chValid := rfl
@[simp] theorem State.fail_buserr (s : State) (e : Err) (c : Cause) : (s.fail e c).buserr = s.buserr := rfl
@[simp] theorem State.fail_wrbusy (s : State) (e : Err) (c : Cause) : (s.fail e c).wrbusy = s.wrbusy := rfl
@[simp] theorem State.fail_err (s : State) (e : Err) (c : Cause) : (s.fail e c).err = e := rfl
@[simp] theorem State.fail_cause (s : State) (e : Err) (c : Cause) : (s.fail e c).cause = c := rfl
@[simp] theorem State.fail_lastOp (s : State) (e : Err) (c : Cause) : (s.fail e c).lastOp = s.lastOp := rfl
@[simp] theorem State.fail_pend (s : State) (e : Err) (c : Cause) : (s.fail e c).pend = s.pend := rfl
@[simp] theorem State.fail_typeIn (s : State) (e : Err) (c : Cause) : (s.fail e c).typeIn = s.typeIn := rfl
@[simp] theorem State.fail_ibufLen (s : State) (e : Err) (c : Cause) : (s.fail e c).ibufLen = s.ibufLen := rfl
@[simp] theorem State.fail_tag (s : State) (e : Err) (c : Cause) : (s.fail e c).tag = s.tag := rfl
@[simp] theorem State.fail_chType (s : State) (e : Err) (c : Cause) : (s.fail e c).chType = s.chType := rfl
@[simp] theorem State.fail_chLen (s : State) (e : Err) (c : Cause) : (s.fail e c).chLen = s.chLen := rfl
@[simp] theorem State.fail_chCrc (s : State) (e : Err) (c : Cause) : (s.fail e c).chCrc = s.chCrc := rfl
@[simp] theorem State.fail_obufLen (s : State) (e : Err) (c : Cause) : (s.fail e c).obufLen = s.obufLen := rfl
@[simp] theorem State.fail_crcAcc (s : State) (e : Err) (c : Cause) : (s.fail e c).crcAcc = s.crcAcc := rfl
@[simp] theorem State.fail_ibuf (s : State) (e : Err) (c : Cause) : (s.fail e c).ibuf = s.ibuf := rfl
@[simp] theorem State.fail_chdata (s : State) (e : Err) (c : Cause) : (s.fail e c).chdata = s.chdata := rfl
@[simp] theorem State.fail_obuf (s : State) (e : Err) (c : Cause) : (s.fail e c).obuf = s.obuf := rfl
@[simp] theorem State.fail_dataWords (s : State) (e : Err) (c : Cause) : (s.fail e c).dataWords = s.dataWords := rfl
@[simp] theorem State.fail_draw (s : State) (e : Err) (c : Cause) : (s.fail e c).draw = s.draw := rfl
@[simp] theorem State.fail_rdata (s : State) (e : Err) (c : Cause) : (s.fail e c).rdata = s.rdata := rfl
@[simp] theorem State.fail_sched (s : State) (e : Err) (c : Cause) : (s.fail e c).sched = s.sched := rfl

/-! ### setChunk -/

@[simp] theorem State.setChunk_ctrlIe (s : State) (ty len : Word) (d : List Byte) (crc : Word) : (s.setChunk ty len d crc).ctrlIe = s.ctrlIe := rfl
@[simp] theorem State.setChunk_busy (s : State) (ty len : Word) (d : List Byte) (crc : Word) : (s.setChunk ty len d crc).busy = s.busy := rfl
@[simp] theorem State.setChunk_done (s : State) (ty len : Word) (d : List Byte) (crc : Word) : (s.setChunk ty len d crc).done = s.done := rfl
@[simp] theorem State.setChunk_chValid (s : State) (ty len : Word) (d : List Byte) (crc : Word) : (s.setChunk ty len d crc).chValid = true := rfl
@[simp] theorem State.setChunk_buserr (s : State) (ty len : Word) (d : List Byte) (crc : Word) : (s.setChunk ty len d crc).buserr = s.buserr := rfl
@[simp] theorem State.setChunk_wrbusy (s : State) (ty len : Word) (d : List Byte) (crc : Word) : (s.setChunk ty len d crc).wrbusy = s.wrbusy := rfl
@[simp] theorem State.setChunk_err (s : State) (ty len : Word) (d : List Byte) (crc : Word) : (s.setChunk ty len d crc).err = s.err := rfl
@[simp] theorem State.setChunk_cause (s : State) (ty len : Word) (d : List Byte) (crc : Word) : (s.setChunk ty len d crc).cause = s.cause := rfl
@[simp] theorem State.setChunk_lastOp (s : State) (ty len : Word) (d : List Byte) (crc : Word) : (s.setChunk ty len d crc).lastOp = s.lastOp := rfl
@[simp] theorem State.setChunk_pend (s : State) (ty len : Word) (d : List Byte) (crc : Word) : (s.setChunk ty len d crc).pend = s.pend := rfl
@[simp] theorem State.setChunk_typeIn (s : State) (ty len : Word) (d : List Byte) (crc : Word) : (s.setChunk ty len d crc).typeIn = s.typeIn := rfl
@[simp] theorem State.setChunk_ibufLen (s : State) (ty len : Word) (d : List Byte) (crc : Word) : (s.setChunk ty len d crc).ibufLen = s.ibufLen := rfl
@[simp] theorem State.setChunk_tag (s : State) (ty len : Word) (d : List Byte) (crc : Word) : (s.setChunk ty len d crc).tag = s.tag := rfl
@[simp] theorem State.setChunk_chType (s : State) (ty len : Word) (d : List Byte) (crc : Word) : (s.setChunk ty len d crc).chType = ty := rfl
@[simp] theorem State.setChunk_chLen (s : State) (ty len : Word) (d : List Byte) (crc : Word) : (s.setChunk ty len d crc).chLen = len := rfl
@[simp] theorem State.setChunk_chCrc (s : State) (ty len : Word) (d : List Byte) (crc : Word) : (s.setChunk ty len d crc).chCrc = crc := rfl
@[simp] theorem State.setChunk_obufLen (s : State) (ty len : Word) (d : List Byte) (crc : Word) : (s.setChunk ty len d crc).obufLen = s.obufLen := rfl
@[simp] theorem State.setChunk_crcAcc (s : State) (ty len : Word) (d : List Byte) (crc : Word) : (s.setChunk ty len d crc).crcAcc = s.crcAcc := rfl
@[simp] theorem State.setChunk_ibuf (s : State) (ty len : Word) (d : List Byte) (crc : Word) : (s.setChunk ty len d crc).ibuf = s.ibuf := rfl
@[simp] theorem State.setChunk_chdata (s : State) (ty len : Word) (d : List Byte) (crc : Word) : (s.setChunk ty len d crc).chdata = s.chdata.writeBytes 0 d := rfl
@[simp] theorem State.setChunk_obuf (s : State) (ty len : Word) (d : List Byte) (crc : Word) : (s.setChunk ty len d crc).obuf = s.obuf := rfl
@[simp] theorem State.setChunk_dataWords (s : State) (ty len : Word) (d : List Byte) (crc : Word) : (s.setChunk ty len d crc).dataWords = s.dataWords := rfl
@[simp] theorem State.setChunk_draw (s : State) (ty len : Word) (d : List Byte) (crc : Word) : (s.setChunk ty len d crc).draw = s.draw := rfl
@[simp] theorem State.setChunk_rdata (s : State) (ty len : Word) (d : List Byte) (crc : Word) : (s.setChunk ty len d crc).rdata = s.rdata := rfl
@[simp] theorem State.setChunk_sched (s : State) (ty len : Word) (d : List Byte) (crc : Word) : (s.setChunk ty len d crc).sched = s.sched := rfl

/-! ### dropMove -/

@[simp] theorem State.dropMove_ctrlIe (s : State) : s.dropMove.ctrlIe = s.ctrlIe := rfl
@[simp] theorem State.dropMove_busy (s : State) : s.dropMove.busy = s.busy := rfl
@[simp] theorem State.dropMove_done (s : State) : s.dropMove.done = s.done := rfl
@[simp] theorem State.dropMove_chValid (s : State) : s.dropMove.chValid = s.chValid := rfl
@[simp] theorem State.dropMove_buserr (s : State) : s.dropMove.buserr = s.buserr := rfl
@[simp] theorem State.dropMove_wrbusy (s : State) : s.dropMove.wrbusy = s.wrbusy := rfl
@[simp] theorem State.dropMove_err (s : State) : s.dropMove.err = s.err := rfl
@[simp] theorem State.dropMove_cause (s : State) : s.dropMove.cause = s.cause := rfl
@[simp] theorem State.dropMove_lastOp (s : State) : s.dropMove.lastOp = s.lastOp := rfl
@[simp] theorem State.dropMove_pend (s : State) : s.dropMove.pend = s.pend := rfl
@[simp] theorem State.dropMove_typeIn (s : State) : s.dropMove.typeIn = s.typeIn := rfl
@[simp] theorem State.dropMove_ibufLen (s : State) : s.dropMove.ibufLen = s.ibufLen := rfl
@[simp] theorem State.dropMove_tag (s : State) : s.dropMove.tag = s.tag := rfl
@[simp] theorem State.dropMove_chType (s : State) : s.dropMove.chType = s.chType := rfl
@[simp] theorem State.dropMove_chLen (s : State) : s.dropMove.chLen = s.chLen := rfl
@[simp] theorem State.dropMove_chCrc (s : State) : s.dropMove.chCrc = s.chCrc := rfl
@[simp] theorem State.dropMove_obufLen (s : State) : s.dropMove.obufLen = s.obufLen := rfl
@[simp] theorem State.dropMove_crcAcc (s : State) : s.dropMove.crcAcc = s.crcAcc := rfl
@[simp] theorem State.dropMove_ibuf (s : State) : s.dropMove.ibuf = s.ibuf := rfl
@[simp] theorem State.dropMove_chdata (s : State) : s.dropMove.chdata = s.chdata := rfl
@[simp] theorem State.dropMove_obuf (s : State) : s.dropMove.obuf = s.obuf := rfl
@[simp] theorem State.dropMove_dataWords (s : State) : s.dropMove.dataWords = s.dataWords := rfl
@[simp] theorem State.dropMove_draw (s : State) : s.dropMove.draw = s.draw := rfl
@[simp] theorem State.dropMove_rdata (s : State) : s.dropMove.rdata = s.rdata := rfl
@[simp] theorem State.dropMove_sched (s : State) : s.dropMove.sched = s.sched.tail := rfl

/-! ### pushMove -/

@[simp] theorem State.pushMove_ctrlIe (s : State) (m : Move) : (s.pushMove m).ctrlIe = s.ctrlIe := rfl
@[simp] theorem State.pushMove_busy (s : State) (m : Move) : (s.pushMove m).busy = s.busy := rfl
@[simp] theorem State.pushMove_done (s : State) (m : Move) : (s.pushMove m).done = s.done := rfl
@[simp] theorem State.pushMove_chValid (s : State) (m : Move) : (s.pushMove m).chValid = s.chValid := rfl
@[simp] theorem State.pushMove_buserr (s : State) (m : Move) : (s.pushMove m).buserr = s.buserr := rfl
@[simp] theorem State.pushMove_wrbusy (s : State) (m : Move) : (s.pushMove m).wrbusy = s.wrbusy := rfl
@[simp] theorem State.pushMove_err (s : State) (m : Move) : (s.pushMove m).err = s.err := rfl
@[simp] theorem State.pushMove_cause (s : State) (m : Move) : (s.pushMove m).cause = s.cause := rfl
@[simp] theorem State.pushMove_lastOp (s : State) (m : Move) : (s.pushMove m).lastOp = s.lastOp := rfl
@[simp] theorem State.pushMove_pend (s : State) (m : Move) : (s.pushMove m).pend = s.pend := rfl
@[simp] theorem State.pushMove_typeIn (s : State) (m : Move) : (s.pushMove m).typeIn = s.typeIn := rfl
@[simp] theorem State.pushMove_ibufLen (s : State) (m : Move) : (s.pushMove m).ibufLen = s.ibufLen := rfl
@[simp] theorem State.pushMove_tag (s : State) (m : Move) : (s.pushMove m).tag = s.tag := rfl
@[simp] theorem State.pushMove_chType (s : State) (m : Move) : (s.pushMove m).chType = s.chType := rfl
@[simp] theorem State.pushMove_chLen (s : State) (m : Move) : (s.pushMove m).chLen = s.chLen := rfl
@[simp] theorem State.pushMove_chCrc (s : State) (m : Move) : (s.pushMove m).chCrc = s.chCrc := rfl
@[simp] theorem State.pushMove_obufLen (s : State) (m : Move) : (s.pushMove m).obufLen = s.obufLen := rfl
@[simp] theorem State.pushMove_crcAcc (s : State) (m : Move) : (s.pushMove m).crcAcc = s.crcAcc := rfl
@[simp] theorem State.pushMove_ibuf (s : State) (m : Move) : (s.pushMove m).ibuf = s.ibuf := rfl
@[simp] theorem State.pushMove_chdata (s : State) (m : Move) : (s.pushMove m).chdata = s.chdata := rfl
@[simp] theorem State.pushMove_obuf (s : State) (m : Move) : (s.pushMove m).obuf = s.obuf := rfl
@[simp] theorem State.pushMove_dataWords (s : State) (m : Move) : (s.pushMove m).dataWords = s.dataWords := rfl
@[simp] theorem State.pushMove_draw (s : State) (m : Move) : (s.pushMove m).draw = s.draw := rfl
@[simp] theorem State.pushMove_rdata (s : State) (m : Move) : (s.pushMove m).rdata = s.rdata := rfl
@[simp] theorem State.pushMove_sched (s : State) (m : Move) : (s.pushMove m).sched = m :: s.sched := rfl

/-! ### doReset -/

@[simp] theorem State.doReset_ctrlIe (s : State) : s.doReset.ctrlIe = false := rfl
@[simp] theorem State.doReset_busy (s : State) : s.doReset.busy = false := rfl
@[simp] theorem State.doReset_done (s : State) : s.doReset.done = false := rfl
@[simp] theorem State.doReset_chValid (s : State) : s.doReset.chValid = false := rfl
@[simp] theorem State.doReset_buserr (s : State) : s.doReset.buserr = false := rfl
@[simp] theorem State.doReset_wrbusy (s : State) : s.doReset.wrbusy = false := rfl
@[simp] theorem State.doReset_err (s : State) : s.doReset.err = .ok := rfl
@[simp] theorem State.doReset_cause (s : State) : s.doReset.cause = .none := rfl
@[simp] theorem State.doReset_lastOp (s : State) : s.doReset.lastOp = 0 := rfl
@[simp] theorem State.doReset_pend (s : State) : s.doReset.pend = 0 := rfl
@[simp] theorem State.doReset_typeIn (s : State) : s.doReset.typeIn = 0 := rfl
@[simp] theorem State.doReset_ibufLen (s : State) : s.doReset.ibufLen = 0 := rfl
@[simp] theorem State.doReset_tag (s : State) : s.doReset.tag = 0 := rfl
@[simp] theorem State.doReset_chType (s : State) : s.doReset.chType = 0 := rfl
@[simp] theorem State.doReset_chLen (s : State) : s.doReset.chLen = 0 := rfl
@[simp] theorem State.doReset_chCrc (s : State) : s.doReset.chCrc = 0 := rfl
@[simp] theorem State.doReset_obufLen (s : State) : s.doReset.obufLen = 0 := rfl
@[simp] theorem State.doReset_crcAcc (s : State) : s.doReset.crcAcc = 0xFFFFFFFF := rfl
@[simp] theorem State.doReset_ibuf (s : State) : s.doReset.ibuf = [] := rfl
@[simp] theorem State.doReset_chdata (s : State) : s.doReset.chdata = [] := rfl
@[simp] theorem State.doReset_obuf (s : State) : s.doReset.obuf = [] := rfl
@[simp] theorem State.doReset_dataWords (s : State) : s.doReset.dataWords = s.dataWords := rfl
@[simp] theorem State.doReset_draw (s : State) : s.doReset.draw = s.draw + 1 := rfl
@[simp] theorem State.doReset_rdata (s : State) : s.doReset.rdata = s.rdata := rfl
@[simp] theorem State.doReset_sched (s : State) : s.doReset.sched = s.sched := rfl

/-! ### The sizes depend on the build parameter alone -/

@[simp] theorem State.reply_dataMax (s : State) (v : Word) : (s.reply v).dataMax = s.dataMax := rfl
@[simp] theorem State.reply_ibufMax (s : State) (v : Word) : (s.reply v).ibufMax = s.ibufMax := rfl
@[simp] theorem State.reply_obufMax (s : State) (v : Word) : (s.reply v).obufMax = s.obufMax := rfl
@[simp] theorem State.flagBuserr_dataMax (s : State) : s.flagBuserr.dataMax = s.dataMax := rfl
@[simp] theorem State.flagBuserr_ibufMax (s : State) : s.flagBuserr.ibufMax = s.ibufMax := rfl
@[simp] theorem State.flagBuserr_obufMax (s : State) : s.flagBuserr.obufMax = s.obufMax := rfl
@[simp] theorem State.flagWrbusy_dataMax (s : State) : s.flagWrbusy.dataMax = s.dataMax := rfl
@[simp] theorem State.flagWrbusy_ibufMax (s : State) : s.flagWrbusy.ibufMax = s.ibufMax := rfl
@[simp] theorem State.flagWrbusy_obufMax (s : State) : s.flagWrbusy.obufMax = s.obufMax := rfl
@[simp] theorem State.badRead_dataMax (s : State) : s.badRead.dataMax = s.dataMax := rfl
@[simp] theorem State.badRead_ibufMax (s : State) : s.badRead.ibufMax = s.ibufMax := rfl
@[simp] theorem State.badRead_obufMax (s : State) : s.badRead.obufMax = s.obufMax := rfl
@[simp] theorem State.clearStatus_dataMax (s : State) (w : Word) : (s.clearStatus w).dataMax = s.dataMax := rfl
@[simp] theorem State.clearStatus_ibufMax (s : State) (w : Word) : (s.clearStatus w).ibufMax = s.ibufMax := rfl
@[simp] theorem State.clearStatus_obufMax (s : State) (w : Word) : (s.clearStatus w).obufMax = s.obufMax := rfl
@[simp] theorem State.accept_dataMax (s : State) (w : Word) : (s.accept w).dataMax = s.dataMax := rfl
@[simp] theorem State.accept_ibufMax (s : State) (w : Word) : (s.accept w).ibufMax = s.ibufMax := rfl
@[simp] theorem State.accept_obufMax (s : State) (w : Word) : (s.accept w).obufMax = s.obufMax := rfl
@[simp] theorem State.retire_dataMax (s : State) (e : Err) (c : Cause) : (s.retire e c).dataMax = s.dataMax := rfl
@[simp] theorem State.retire_ibufMax (s : State) (e : Err) (c : Cause) : (s.retire e c).ibufMax = s.ibufMax := rfl
@[simp] theorem State.retire_obufMax (s : State) (e : Err) (c : Cause) : (s.retire e c).obufMax = s.obufMax := rfl
@[simp] theorem State.fail_dataMax (s : State) (e : Err) (c : Cause) : (s.fail e c).dataMax = s.dataMax := rfl
@[simp] theorem State.fail_ibufMax (s : State) (e : Err) (c : Cause) : (s.fail e c).ibufMax = s.ibufMax := rfl
@[simp] theorem State.fail_obufMax (s : State) (e : Err) (c : Cause) : (s.fail e c).obufMax = s.obufMax := rfl
@[simp] theorem State.setChunk_dataMax (s : State) (ty len : Word) (d : List Byte) (crc : Word) : (s.setChunk ty len d crc).dataMax = s.dataMax := rfl
@[simp] theorem State.setChunk_ibufMax (s : State) (ty len : Word) (d : List Byte) (crc : Word) : (s.setChunk ty len d crc).ibufMax = s.ibufMax := rfl
@[simp] theorem State.setChunk_obufMax (s : State) (ty len : Word) (d : List Byte) (crc : Word) : (s.setChunk ty len d crc).obufMax = s.obufMax := rfl
@[simp] theorem State.dropMove_dataMax (s : State) : s.dropMove.dataMax = s.dataMax := rfl
@[simp] theorem State.dropMove_ibufMax (s : State) : s.dropMove.ibufMax = s.ibufMax := rfl
@[simp] theorem State.dropMove_obufMax (s : State) : s.dropMove.obufMax = s.obufMax := rfl
@[simp] theorem State.pushMove_dataMax (s : State) (m : Move) : (s.pushMove m).dataMax = s.dataMax := rfl
@[simp] theorem State.pushMove_ibufMax (s : State) (m : Move) : (s.pushMove m).ibufMax = s.ibufMax := rfl
@[simp] theorem State.pushMove_obufMax (s : State) (m : Move) : (s.pushMove m).obufMax = s.obufMax := rfl
@[simp] theorem State.doReset_dataMax (s : State) : s.doReset.dataMax = s.dataMax := rfl
@[simp] theorem State.doReset_ibufMax (s : State) : s.doReset.ibufMax = s.ibufMax := rfl
@[simp] theorem State.doReset_obufMax (s : State) : s.doReset.obufMax = s.obufMax := rfl

/-! ### Completion -/

@[simp] theorem State.complete_ok (s t : State) : s.complete (.ok t) = t.retire .ok .none := rfl
@[simp] theorem State.complete_fail (s : State) (e : Err) (c : Cause) : s.complete (.fail e c) = s.fail e c := rfl

end Sys2Proof.Machine
end

