-- ==== Sys2Proof/Laws/Ops.lean ====
section
/-! SUPPORT. What each shared operation can do, said once: later proofs cite these instead of unfolding the operation. -/

namespace Sys2Proof.Machine

/-- A blocked write: ignored with `WRBUSY`, or its effect. -/
theorem State.unlessBusy_cases (s t : State) :
    (s.busy = true ∧ s.unlessBusy t = s.flagWrbusy) ∨ (s.busy = false ∧ s.unlessBusy t = t) := by
  unfold State.unlessBusy
  cases s.busy <;> simp

/-- While a command is in flight, a blocked write only sets `WRBUSY`. -/
theorem State.unlessBusy_of_busy {s t : State} (h : s.busy = true) : s.unlessBusy t = s.flagWrbusy := by simp [State.unlessBusy, h]

/-- While the block is idle, a write that could be blocked has its effect. -/
theorem State.unlessBusy_of_idle {s t : State} (h : s.busy = false) : s.unlessBusy t = t := by simp [State.unlessBusy, h]

/-- A window read: the word, or a bad read. -/
theorem State.windowRead_cases (s : State) (off : Offset) (size : Nat) (v : Word) :
    (off.toNat < size ∧ s.windowRead off size v = s.reply v) ∨ (size ≤ off.toNat ∧ s.windowRead off size v = s.badRead) := by
  unfold State.windowRead
  by_cases h : off.toNat < size
  · exact .inl ⟨h, by simp [h]⟩
  · exact .inr ⟨by omega, by simp [h]⟩

/-- A `Complete` step: the writes committed with `OK`, or the two codes and nothing else. -/
theorem State.complete_cases (s : State) (o : CmdOutcome) :
    (∃ t, o = .ok t ∧ s.complete o = t.retire .ok .none) ∨ (∃ e c, o = .fail e c ∧ s.complete o = s.retire e c) := by
  cases o with
  | ok t => exact .inl ⟨t, rfl, rfl⟩
  | fail e c => exact .inr ⟨e, c, rfl, rfl⟩

/-- What a body of the tag decoder's text command can answer. -/
theorem typeFromText_cases (s : State) :
    (s.ibufLen.toNat ≠ 4 ∧ typeFromText s = .fail .format .textLength) ∨
    (s.ibufLen.toNat = 4 ∧ alpha (s.ibufBytes 4) = false ∧ typeFromText s = .fail .format .textNotAlpha) ∨
    (s.ibufLen.toNat = 4 ∧ alpha (s.ibufBytes 4) = true ∧ typeFromText s = .ok { s with tag := be32 (s.ibufBytes 4) }) := by
  unfold typeFromText
  by_cases h : s.ibufLen.toNat = 4
  · cases alpha (s.ibufBytes 4) <;> simp [h]
  · simp [h]

/-- What the body of `CRC_ACCUM` can answer. -/
theorem crcAccum_cases (s : State) :
    (s.ibufMax < s.ibufLen.toNat ∧ crcAccum s = .fail .capacity .none) ∨
    (s.ibufLen.toNat ≤ s.ibufMax ∧
      crcAccum s = .ok { s with crcAcc := crcRun s.crcAcc (s.ibufBytes s.ibufLen.toNat) }) := by
  unfold crcAccum
  by_cases h : s.ibufMax < s.ibufLen.toNat
  · simp [h]
  · exact .inr ⟨by omega, by simp [h]⟩

/-- What the body of `CHUNK_NEW` can answer. -/
theorem chunkNew_cases (s : State) :
    (s.dataMax < s.ibufLen.toNat ∧ chunkNew s = .fail .capacity .none) ∨
    (s.ibufLen.toNat ≤ s.dataMax ∧
      chunkNew s = .ok (s.setChunk s.tag s.ibufLen (s.ibufBytes s.ibufLen.toNat)
        (crc32 (bytesBe32 s.tag ++ s.ibufBytes s.ibufLen.toNat)))) := by
  unfold chunkNew
  by_cases h : s.dataMax < s.ibufLen.toNat
  · simp [h]
  · exact .inr ⟨by omega, by simp [h]⟩

/-- What the body of `CHUNK_DECODE` can answer. -/
theorem chunkDecode_cases (s : State) :
    (s.ibufMax < s.ibufLen.toNat ∧ chunkDecode s = .fail .capacity .none) ∨
    (s.ibufLen.toNat ≤ s.ibufMax ∧ ∃ e c, deframe (s.ibufBytes s.ibufLen.toNat) = .fail e c ∧ chunkDecode s = .fail e c) ∨
    (s.ibufLen.toNat ≤ s.ibufMax ∧ ∃ ty len d crc, deframe (s.ibufBytes s.ibufLen.toNat) = .ok ty len d crc ∧
      chunkDecode s = .ok (s.setChunk ty len d crc)) := by
  unfold chunkDecode
  by_cases h : s.ibufMax < s.ibufLen.toNat
  · simp [h]
  · cases hd : deframe (s.ibufBytes s.ibufLen.toNat) with
    | fail e c => exact .inr (.inl ⟨by omega, e, c, rfl, by simp [h]⟩)
    | ok ty len d crc => exact .inr (.inr ⟨by omega, ty, len, d, crc, rfl, by simp [h]⟩)

/-- What the body of `CHUNK_ENCODE` can answer. -/
theorem chunkEncode_cases (s : State) :
    (s.chValid = false ∧ chunkEncode s = .fail .noChunk .none) ∨
    (s.chValid = true ∧ chunkEncode s = .ok { s with
      obuf := s.obuf.writeBytes 0 (frame s.chType (s.chdataBytes s.chLen.toNat) s.chCrc), obufLen := 12 + s.chLen }) := by
  unfold chunkEncode
  cases s.chValid <;> simp

/-- What the body of `DATA_AS_TEXT` can answer. -/
theorem dataAsText_cases (s : State) :
    (s.chValid = false ∧ dataAsText s = .fail .noChunk .none) ∨
    (s.chValid = true ∧ utf8Ok (s.chdataBytes s.chLen.toNat) = false ∧ dataAsText s = .fail .encoding .none) ∨
    (s.chValid = true ∧ utf8Ok (s.chdataBytes s.chLen.toNat) = true ∧ dataAsText s = .ok s) := by
  unfold dataAsText
  cases s.chValid <;> cases utf8Ok (s.chdataBytes s.chLen.toNat) <;> simp

/-- What `deframe` can answer (42_chunk_framer R163). -/
theorem deframe_cases (s : List Byte) :
    (s.length < 12 ∧ deframe s = .fail .format .frameTooShort) ∨
    (12 ≤ s.length ∧ (be32 (slice s 0 4)).toNat ≠ s.length - 12 ∧ deframe s = .fail .format .lengthMismatch) ∨
    (12 ≤ s.length ∧ (be32 (slice s 0 4)).toNat = s.length - 12 ∧
      crc32 (slice s 4 8 ++ slice s 8 (s.length - 4)) ≠ be32 (slice s (s.length - 4) s.length) ∧
      deframe s = .fail .crcMismatch .none) ∨
    (12 ≤ s.length ∧ (be32 (slice s 0 4)).toNat = s.length - 12 ∧
      crc32 (slice s 4 8 ++ slice s 8 (s.length - 4)) = be32 (slice s (s.length - 4) s.length) ∧
      deframe s = .ok (be32 (slice s 4 8)) (be32 (slice s 0 4)) (slice s 8 (s.length - 4))
        (be32 (slice s (s.length - 4) s.length))) := by
  unfold deframe
  by_cases h1 : s.length < 12
  · simp [h1]
  · have h1' : 12 ≤ s.length := by omega
    by_cases h2 : (be32 (slice s 0 4)).toNat = s.length - 12
    · by_cases h3 : crc32 (slice s 4 8 ++ slice s 8 (s.length - 4)) = be32 (slice s (s.length - 4) s.length)
      · simp [h1, h1', h2, h3]
      · simp [h1, h1', h2, h3]
    · simp [h1, h1', h2]

/-- What `State.fetch` can give: the instruction of a transaction, a reset, the command in flight, or nothing. -/
theorem State.fetch_cases (s : State) :
    (∃ t, s.sched.head? = some (.host t) ∧ s.fetch = (some (decodeBus t), s.dropMove)) ∨
    (s.sched.head? = some .rst ∧ s.fetch = (none, s.dropMove.doReset)) ∨
    ((s.sched.head? = some .seq ∨ s.sched = []) ∧ s.busy = true ∧ s.fetch = (some (decodeCmd s.pend), s.dropMove)) ∨
    ((s.sched.head? = some .seq ∨ s.sched = []) ∧ s.busy = false ∧ s.fetch = (none, s.dropMove)) := by
  unfold State.fetch
  cases hs : s.sched with
  | nil =>
    have h : s.dropMove = s := by cases s; simp_all [State.dropMove]
    cases s.busy <;> simp [h]
  | cons m l =>
    cases m with
    | host t => exact .inl ⟨t, rfl, rfl⟩
    | rst => simp
    | seq => cases s.busy <;> simp

end Sys2Proof.Machine
end

