-- ==== Sys2Proof/Laws/Exec.lean ====
section
/-! SUPPORT. What a command, a bus transaction and a step can do, said once: whole-machine claims follow by cases on these. -/

namespace Sys2Proof.Machine

/-- A command is a `Complete` step of some outcome. Its writes never touch the host's own state, the bus flags or the command in
flight, and it never fails with `OK`. -/
theorem exec_command (i : Instr) (s : State) (h : i.isCommand = true) :
    ∃ o, exec i s = .next (s.complete o) ∧
      (∀ t, o = .ok t →
        t.ctrlIe = s.ctrlIe ∧ t.buserr = s.buserr ∧ t.wrbusy = s.wrbusy ∧ t.lastOp = s.lastOp ∧ t.pend = s.pend ∧
        t.typeIn = s.typeIn ∧ t.ibufLen = s.ibufLen ∧ t.ibuf = s.ibuf ∧ t.dataWords = s.dataWords ∧ t.draw = s.draw ∧
        t.rdata = s.rdata ∧ t.sched = s.sched) ∧
      (∀ e c, o = .fail e c → e ≠ .ok ∧ (c ≠ .none ↔ e = .format)) := by
  cases i <;> simp only [Instr.isCommand, Bool.false_eq_true] at h
  all_goals refine ⟨_, rfl, ?_⟩
  · simp [typeFromBytes]
  · rcases typeFromText_cases s with ⟨_, e⟩ | ⟨_, _, e⟩ | ⟨_, _, e⟩ <;> rw [e] <;> simp
  · rcases chunkNew_cases s with ⟨_, e⟩ | ⟨_, e⟩ <;> rw [e] <;> simp
  · rcases chunkDecode_cases s with ⟨_, e⟩ | ⟨_, _, _, d, e⟩ | ⟨_, _, _, _, _, _, e⟩ <;> rw [e] <;> simp
    rcases deframe_cases (s.ibufBytes s.ibufLen.toNat) with ⟨_, e'⟩ | ⟨_, _, e'⟩ | ⟨_, _, _, e'⟩ | ⟨_, _, _, e'⟩ <;>
      rw [e'] at d <;> simp at d <;> simp [← d.1, ← d.2]
  · rcases chunkEncode_cases s with ⟨_, e⟩ | ⟨_, e⟩ <;> rw [e] <;> simp
  · rcases dataAsText_cases s with ⟨_, e⟩ | ⟨_, _, e⟩ | ⟨_, _, e⟩ <;> rw [e] <;> simp
  · simp [chunkDiscard]
  · simp [crcClear]
  · rcases crcAccum_cases s with ⟨_, e⟩ | ⟨_, e⟩ <;> rw [e] <;> simp
  · simp

/-- A bus transaction answers on the port, sets a sticky flag, or writes one piece of the state the host owns. -/
theorem exec_bus (i : Instr) (s : State) (h : i.isCommand = false) :
    ∃ t, exec i s = .next t ∧
      ((∃ v, t = s.reply v) ∨ t = s.badRead ∨ t = s.flagBuserr ∨ (s.busy = true ∧ t = s.flagWrbusy) ∨
       (∃ w, i = .wrCtrl w ∧ t = { s with ctrlIe := w.getLsbD 0 }) ∨ (∃ w, i = .wrStatus w ∧ t = s.clearStatus w) ∨
       (s.busy = false ∧ ∃ w, i = .wrCmd w ∧ t = s.accept w) ∨
       (s.busy = false ∧ ∃ w, i = .wrTypeIn w ∧ t = { s with typeIn := w }) ∨
       (s.busy = false ∧ ∃ w, i = .wrIbufLen w ∧ t = { s with ibufLen := w }) ∨
       (s.busy = false ∧ ∃ off w, i = .wrIbuf off w ∧ off.toNat < s.ibufMax ∧
         t = { s with ibuf := s.ibuf.writeBytes off.toNat (bytesBe32 w) })) := by
  cases i <;> simp only [Instr.isCommand, Bool.true_eq_false] at h
  case wrCtrl w => exact ⟨_, rfl, .inr (.inr (.inr (.inr (.inl ⟨w, rfl, rfl⟩))))⟩
  case wrStatus w => exact ⟨_, rfl, .inr (.inr (.inr (.inr (.inr (.inl ⟨w, rfl, rfl⟩)))))⟩
  case wrCmd w =>
    refine ⟨_, rfl, ?_⟩
    rcases State.unlessBusy_cases s (s.accept w) with ⟨hb, e⟩ | ⟨hb, e⟩
    · exact .inr (.inr (.inr (.inl ⟨hb, e⟩)))
    · exact .inr (.inr (.inr (.inr (.inr (.inr (.inl ⟨hb, w, rfl, e⟩))))))
  case wrTypeIn w =>
    refine ⟨_, rfl, ?_⟩
    rcases State.unlessBusy_cases s { s with typeIn := w } with ⟨hb, e⟩ | ⟨hb, e⟩
    · exact .inr (.inr (.inr (.inl ⟨hb, e⟩)))
    · exact .inr (.inr (.inr (.inr (.inr (.inr (.inr (.inl ⟨hb, w, rfl, e⟩)))))))
  case wrIbufLen w =>
    refine ⟨_, rfl, ?_⟩
    rcases State.unlessBusy_cases s { s with ibufLen := w } with ⟨hb, e⟩ | ⟨hb, e⟩
    · exact .inr (.inr (.inr (.inl ⟨hb, e⟩)))
    · exact .inr (.inr (.inr (.inr (.inr (.inr (.inr (.inr (.inl ⟨hb, w, rfl, e⟩))))))))
  case wrIbuf off w =>
    simp only [exec, execWrIbuf]
    split
    · next hlt =>
      rcases State.unlessBusy_cases s { s with ibuf := s.ibuf.writeBytes off.toNat (bytesBe32 w) } with ⟨hb, e⟩ | ⟨hb, e⟩
      · exact ⟨_, rfl, .inr (.inr (.inr (.inl ⟨hb, e⟩)))⟩
      · exact ⟨_, rfl, .inr (.inr (.inr (.inr (.inr (.inr (.inr (.inr (.inr ⟨hb, off, w, rfl, hlt, e⟩))))))))⟩
    · exact ⟨_, rfl, .inr (.inr (.inl rfl))⟩
  case rdIbuf off =>
    refine ⟨_, rfl, ?_⟩
    rcases State.windowRead_cases s off s.ibufMax (s.ibufWord off.toNat) with ⟨_, e⟩ | ⟨_, e⟩
    · exact .inl ⟨_, e⟩
    · exact .inr (.inl e)
  case rdChdata off =>
    refine ⟨_, rfl, ?_⟩
    rcases State.windowRead_cases s off s.dataMax (s.chdataWord off.toNat) with ⟨_, e⟩ | ⟨_, e⟩
    · exact .inl ⟨_, e⟩
    · exact .inr (.inl e)
  case rdObuf off =>
    refine ⟨_, rfl, ?_⟩
    rcases State.windowRead_cases s off s.obufMax (s.obufWord off.toNat) with ⟨_, e⟩ | ⟨_, e⟩
    · exact .inl ⟨_, e⟩
    · exact .inr (.inl e)
  all_goals first
    | exact ⟨_, rfl, .inl ⟨_, rfl⟩⟩
    | exact ⟨_, rfl, .inr (.inl rfl)⟩
    | exact ⟨_, rfl, .inr (.inr (.inl rfl))⟩

/-- A command word decodes to a command. -/
theorem decodeCmd_isCommand (w : Word) : (decodeCmd w).isCommand = true := by
  rcases decodeCmd_cases w with ⟨_, e⟩ | ⟨_, e⟩ | ⟨_, e⟩ | ⟨_, e⟩ | ⟨_, e⟩ | ⟨_, e⟩ | ⟨_, e⟩ | ⟨_, e⟩ | ⟨_, e⟩ | ⟨_, e⟩ <;>
    rw [e] <;> rfl

/-- A transaction decodes to no command. -/
theorem decodeBus_isCommand (t : Transaction) : (decodeBus t).isCommand = false := by
  unfold decodeBus
  split
  · rcases decodeWrite_cases t.addr t.data with
      ⟨_, e⟩ | ⟨_, e⟩ | ⟨_, e⟩ | ⟨_, ⟨r, _, e⟩ | ⟨_, _, e⟩ | ⟨_, e⟩ | ⟨_, e⟩ | ⟨_, e⟩⟩ <;> rw [e]
    all_goals first | rfl | (cases r <;> rfl)
  · rcases decodeRead_cases t.addr with
      ⟨_, e⟩ | ⟨_, e⟩ | ⟨_, e⟩ | ⟨_, ⟨r, _, e⟩ | ⟨_, _, e⟩ | ⟨_, e⟩ | ⟨_, e⟩ | ⟨_, e⟩⟩ <;> rw [e]
    all_goals first | rfl | (cases r <;> rfl)

/-- What a step can be: a transaction, a reset, the end of the command in flight, or a turn that passes. -/
theorem step_cases (s : State) :
    (∃ t, s.NextIsHost t ∧ step s = exec (decodeBus t) s.dropMove) ∨
    (s.NextIsReset ∧ step s = .next s.dropMove.doReset) ∨
    (s.NextIsComplete ∧ step s = exec (decodeCmd s.pend) s.dropMove) ∨
    (s.NextIsSeq ∧ s.busy = false ∧ step s = .next s.dropMove) := by
  have hnil : s.sched = [] → s.dropMove = s := by
    intro h
    cases s
    simp_all [State.dropMove]
  cases hs : s.sched with
  | nil =>
    cases hb : s.busy with
    | true => exact .inr (.inr (.inl ⟨⟨hb, .inl hs⟩, by simp [step, State.fetch, hs, hb, hnil hs]⟩))
    | false => exact .inr (.inr (.inr ⟨.inl hs, rfl, by simp [step, State.fetch, hs, hb, hnil hs]⟩))
  | cons m l =>
    cases m with
    | host t => exact .inl ⟨t, ⟨l, hs⟩, by simp [step, State.fetch, hs]⟩
    | rst => exact .inr (.inl ⟨⟨l, hs⟩, by simp [step, State.fetch, hs]⟩)
    | seq =>
      cases hb : s.busy with
      | true => exact .inr (.inr (.inl ⟨⟨hb, .inr ⟨l, hs⟩⟩, by simp [step, State.fetch, hs, hb]⟩))
      | false => exact .inr (.inr (.inr ⟨.inr ⟨l, hs⟩, rfl, by simp [step, State.fetch, hs, hb]⟩))

/-- The step of a transaction of the row `i` is `exec` of `i`. -/
theorem step_of_row {s : State} {i : Instr} (h : s.NextIsRow i) : step s = exec i s.dropMove := by
  obtain ⟨t, ⟨l, hl⟩, rfl⟩ := h
  simp [step, State.fetch, hl]

/-- The step that completes the command `i` is `exec` of `i`. -/
theorem step_of_completes {s : State} {i : Instr} (h : s.NextCompletes i) : step s = exec i s.dropMove := by
  obtain ⟨⟨hb, hq⟩, rfl⟩ := h
  rcases step_cases s with ⟨t, ⟨l, hl⟩, _⟩ | ⟨⟨l, hl⟩, _⟩ | ⟨_, e⟩ | ⟨_, hi, _⟩
  · rcases hq with h | ⟨_, h⟩ <;> rw [hl] at h <;> cases h
  · rcases hq with h | ⟨_, h⟩ <;> rw [hl] at h <;> cases h
  · exact e
  · rw [hb] at hi; cases hi

end Sys2Proof.Machine
end

