-- ==== Sys2Proof/Laws/Memory.lean ====
section
/-! SUPPORT. The laws of the buffer storage: reading what was written, and the canonical form kept by every operation. -/

namespace Sys2Proof.Machine

@[simp] theorem Memory.read?_nil (i : Nat) : Memory.read? [] i = none := rfl

/-- Reading after a write: the byte written at its index, the old byte elsewhere. -/
@[simp] theorem Memory.read?_write (m : Memory) (i : Nat) (v : Byte) (j : Nat) :
    (m.write i v).read? j = if j = i then some v else m.read? j := by
  induction m with
  | nil => simp [Memory.write, Memory.read?]
  | cons c m ih =>
    simp only [Memory.write]
    split
    · simp only [Memory.read?]
    · split
      · next h => subst h; simp only [Memory.read?]; split <;> rfl
      · simp only [Memory.read?, ih]
        split <;> split <;> first | rfl | omega

/-- Reading after a string is written from index `a` on: its bytes where it lies, the old byte elsewhere. -/
theorem Memory.read?_writeBytes (m : Memory) (a : Nat) (d : List Byte) (j : Nat) :
    (m.writeBytes a d).read? j = if a ≤ j ∧ j < a + d.length then d[j - a]? else m.read? j := by
  induction d generalizing m a with
  | nil => simp [Memory.writeBytes]
  | cons b d ih =>
    simp only [Memory.writeBytes, ih, Memory.read?_write, List.length_cons]
    by_cases h : j = a
    · subst h; simp
    · by_cases h1 : a ≤ j ∧ j < a + (d.length + 1)
      · have h2 : a + 1 ≤ j ∧ j < a + 1 + d.length := by omega
        have h3 : j - a = (j - (a + 1)) + 1 := by omega
        rw [if_pos h1, if_pos h2, h3, List.getElem?_cons_succ]
      · rw [if_neg h1, if_neg (by omega), if_neg h]

theorem Memory.wf_tail {c : Host.Cell} {m : Memory} (h : Memory.wf (c :: m) = true) : Memory.wf m = true := by
  cases m with
  | nil => rfl
  | cons d m => simp only [Memory.wf, Bool.and_eq_true] at h; exact h.2

theorem Memory.wf_cons {c : Host.Cell} {m : Memory} :
    Memory.wf (c :: m) = true ↔ (∀ d ∈ m.head?, c.1 < d.1) ∧ Memory.wf m = true := by
  cases m with
  | nil => simp [Memory.wf]
  | cons d m => simp [Memory.wf]

theorem Memory.head?_write (m : Memory) (i : Nat) (v : Byte) :
    ∀ d ∈ (m.write i v).head?, d.1 = i ∨ ∃ e ∈ m.head?, d.1 = e.1 := by
  cases m with
  | nil => simp [Memory.write]
  | cons c m =>
    simp only [Memory.write]
    split
    · simp
    · split <;> simp

/-- A write keeps the canonical form. -/
theorem Memory.wf_write {m : Memory} (h : m.wf = true) (i : Nat) (v : Byte) : (m.write i v).wf = true := by
  induction m with
  | nil => rfl
  | cons c m ih =>
    have ht := Memory.wf_cons.mp h
    simp only [Memory.write]
    split
    · next hlt => exact Memory.wf_cons.mpr ⟨by simpa using hlt, h⟩
    · split
      · next heq => exact Memory.wf_cons.mpr ⟨by subst heq; exact ht.1, ht.2⟩
      · refine Memory.wf_cons.mpr ⟨fun d hd => ?_, ih ht.2⟩
        rcases Memory.head?_write m i v d hd with h1 | ⟨e, he, h1⟩
        · omega
        · have := ht.1 e he; omega

/-- Writing a string keeps the canonical form. -/
theorem Memory.wf_writeBytes {m : Memory} (h : m.wf = true) (a : Nat) (d : List Byte) : (m.writeBytes a d).wf = true := by
  induction d generalizing m a with
  | nil => exact h
  | cons b d ih => exact ih (Memory.wf_write h a b) (a + 1)

/-- A write lists no index but its own and those already listed. -/
theorem Memory.mem_write {m : Memory} {i : Nat} {v : Byte} {c : Host.Cell} (h : c ∈ m.write i v) : c.1 = i ∨ c ∈ m := by
  induction m with
  | nil => simp only [Memory.write, List.mem_singleton] at h; simp [h]
  | cons d m ih =>
    simp only [Memory.write] at h
    split at h
    · rcases List.mem_cons.mp h with rfl | h
      · exact .inl rfl
      · exact .inr h
    · split at h
      · rcases List.mem_cons.mp h with rfl | h
        · exact .inl rfl
        · exact .inr (List.mem_cons_of_mem _ h)
      · rcases List.mem_cons.mp h with rfl | h
        · exact .inr List.mem_cons_self
        · exact (ih h).imp_right (List.mem_cons_of_mem _)

/-- Writing a string lists no index but those it covers and those already listed. -/
theorem Memory.mem_writeBytes {m : Memory} {a : Nat} {d : List Byte} {c : Host.Cell} (h : c ∈ m.writeBytes a d) :
    (a ≤ c.1 ∧ c.1 < a + d.length) ∨ c ∈ m := by
  induction d generalizing m a with
  | nil => exact .inr h
  | cons b d ih =>
    rcases ih h with h1 | h1
    · exact .inl ⟨by omega, by simp; omega⟩
    · rcases Memory.mem_write h1 with h2 | h2
      · exact .inl ⟨by omega, by simp; omega⟩
      · exact .inr h2

/-- In canonical form an entry is what its index reads as, so that two canonical storages that read alike are equal lists. -/
theorem Memory.read?_eq_some_of_mem {m : Memory} (h : m.wf = true) {c : Host.Cell} (hc : c ∈ m) : m.read? c.1 = some c.2 := by
  induction m with
  | nil => cases hc
  | cons d m ih =>
    have ht := Memory.wf_cons.mp h
    rcases List.mem_cons.mp hc with rfl | hm
    · simp [Memory.read?]
    · have hlt : d.1 < c.1 := by
        clear ih hc
        induction m generalizing d with
        | nil => cases hm
        | cons e m ih2 =>
          have he := ht.1 e (by simp)
          rcases List.mem_cons.mp hm with rfl | hm2
          · exact he
          · exact lt_trans he (ih2 (d := e) ht.2 (Memory.wf_cons.mp ht.2) hm2)
      simp only [Memory.read?]
      rw [if_neg (by omega)]
      exact ih ht.2 hm

end Sys2Proof.Machine
end

