-- ==== Sys2Proof/Laws/Operands.lean ====
section
/-! SUPPORT. The laws of operand assembly: lengths, the bytes of a string out of a buffer, and the big-endian fields. -/

namespace Sys2Proof.Machine

@[simp] theorem ibufBytes_length (s : State) (n : Nat) : (s.ibufBytes n).length = n := by simp [State.ibufBytes]
@[simp] theorem chdataBytes_length (s : State) (n : Nat) : (s.chdataBytes n).length = n := by simp [State.chdataBytes]
@[simp] theorem obufBytes_length (s : State) (n : Nat) : (s.obufBytes n).length = n := by simp [State.obufBytes]

theorem ibufBytes_getElem? (s : State) (n i : Nat) : (s.ibufBytes n)[i]? = if i < n then some (s.ibufByte i) else none := by
  simp only [State.ibufBytes, List.getElem?_map]
  split
  · next h => simp [h]
  · next h => simp [h]

theorem chdataBytes_getElem? (s : State) (n i : Nat) :
    (s.chdataBytes n)[i]? = if i < n then some (s.chdataByte i) else none := by
  simp only [State.chdataBytes, List.getElem?_map]
  split
  · next h => simp [h]
  · next h => simp [h]

theorem obufBytes_getElem? (s : State) (n i : Nat) : (s.obufBytes n)[i]? = if i < n then some (s.obufByte i) else none := by
  simp only [State.obufBytes, List.getElem?_map]
  split
  · next h => simp [h]
  · next h => simp [h]

@[simp] theorem bytesBe32_length (v : Word) : (bytesBe32 v).length = 4 := rfl

/-- `bytes_be32` is the inverse of `be32` (00_scope R10). -/
@[simp] theorem be32_bytesBe32 (v : Word) : be32 (bytesBe32 v) = v := by
  refine BitVec.eq_of_getLsbD_eq fun i hi => ?_
  simp only [bytesBe32, be32, BitVec.getLsbD_append, BitVec.getLsbD_extractLsb']
  interval_cases i <;> rfl

/-- A byte out of a big-endian field is the byte put there. -/
theorem extract_be32 (b0 b1 b2 b3 : Byte) :
    (be32 [b0, b1, b2, b3]).extractLsb' 24 8 = b0 ∧ (be32 [b0, b1, b2, b3]).extractLsb' 16 8 = b1 ∧
    (be32 [b0, b1, b2, b3]).extractLsb' 8 8 = b2 ∧ (be32 [b0, b1, b2, b3]).extractLsb' 0 8 = b3 := by
  refine ⟨?_, ?_, ?_, ?_⟩ <;> refine BitVec.eq_of_getLsbD_eq fun i hi => ?_ <;>
    simp only [be32, BitVec.getLsbD_append, BitVec.getLsbD_extractLsb'] <;> interval_cases i <;> rfl

/-- `be32` is the inverse of `bytes_be32` on 4-byte strings (00_scope R10). -/
theorem bytesBe32_be32 (b0 b1 b2 b3 : Byte) : bytesBe32 (be32 [b0, b1, b2, b3]) = [b0, b1, b2, b3] := by
  obtain ⟨h0, h1, h2, h3⟩ := extract_be32 b0 b1 b2 b3
  simp only [bytesBe32, h0, h1, h2, h3]

/-- The byte that CHDATA holds after a string is written at its start. -/
theorem chdataByte_writeBytes (s : State) (d : List Byte) (i : Nat) :
    State.chdataByte { s with chdata := s.chdata.writeBytes 0 d } i = (d[i]?).getD (s.chdataByte i) := by
  simp only [State.chdataByte, Memory.read?_writeBytes]
  by_cases h : i < d.length
  · simp [h]
  · simp [h]

/-- The byte that OBUF holds after a string is written at its start. -/
theorem obufByte_writeBytes (s : State) (d : List Byte) (i : Nat) :
    State.obufByte { s with obuf := s.obuf.writeBytes 0 d } i = (d[i]?).getD (s.obufByte i) := by
  simp only [State.obufByte, Memory.read?_writeBytes]
  by_cases h : i < d.length
  · simp [h]
  · simp [h]

end Sys2Proof.Machine
end

