-- ==== Sys2Proof/Laws/PerInstr.lean ====
section
/-! SUPPORT. The per-instruction family `MatchesTableRow`: the encoding of a well-formed instruction agrees with the match and mask that
spec/opcode_table.json gives the instruction's row. One lemma per constructor. -/

namespace Sys2Proof.Laws.MatchesTableRow

/-- The key of the encoding of `i`, masked, is the row's match. -/
def Statement (i : Instr) : Prop := i.WellFormed → (encode i).tableKey &&& i.tableRow.2 = i.tableRow.1

/-- A row whose mask and match are 0 matches every key (the fallback row of 30_encoding R96). -/
theorem matches_of_mask_zero {i : Instr} (hm : i.tableRow.2 = 0) (hv : i.tableRow.1 = 0) : Statement i := by
  intro _
  rw [hm, hv]
  exact BitVec.and_zero

/-- The key of a misaligned access under the mask of its row. -/
theorem misaligned_matches (we : Bool) (a : Word) (k : Nat) (hk : k < 4) (h : (a.toNat % 4 == k) = true) :
    (BitVec.ofBool we ++ a : BitVec 33) &&& 0x100000003 = BitVec.ofBool we ++ (BitVec.ofNat 32 k) := by
  have hk' : a.extractLsb' 0 2 = BitVec.ofNat 2 k := by
    apply BitVec.eq_of_toNat_eq
    simp only [BitVec.extractLsb'_toNat, BitVec.toNat_ofNat, Nat.shiftRight_zero]
    simp only [beq_iff_eq] at h
    omega
  have h0 : a.getLsbD 0 = (BitVec.ofNat 2 k).getLsbD 0 := by rw [← hk']; simp
  have h1 : a.getLsbD 1 = (BitVec.ofNat 2 k).getLsbD 1 := by rw [← hk']; simp
  refine BitVec.eq_of_getLsbD_eq fun i hi => ?_
  simp only [BitVec.getLsbD_and, BitVec.getLsbD_append]
  interval_cases k <;> interval_cases i <;> simp_all

/-- The key of an aligned access under the mask of its region's row. -/
theorem region_matches (we : Bool) (r : BitVec 2) (off : Offset) (h : off.toNat % 4 = 0) :
    (BitVec.ofBool we ++ addressOf r off : BitVec 33) &&& 0x1C0000003 = BitVec.ofBool we ++ addressOf r 0 := by
  have h' : off.extractLsb' 0 2 = 0#2 := by
    apply BitVec.eq_of_toNat_eq
    simp only [BitVec.extractLsb'_toNat, BitVec.toNat_ofNat, Nat.shiftRight_zero]
    omega
  have h0 : off.getLsbD 0 = false := by have := congrArg (·.getLsbD 0) h'; simpa using this
  have h1 : off.getLsbD 1 = false := by have := congrArg (·.getLsbD 1) h'; simpa using this
  refine BitVec.eq_of_getLsbD_eq fun i hi => ?_
  simp only [addressOf, BitVec.getLsbD_and, BitVec.getLsbD_append]
  interval_cases i <;> simp_all

/-- The key of a register write under the mask of its row, which is every bit of the key. -/
theorem register_matches (r : Reg) (m : BitVec 33) (h : (BitVec.ofBool true ++ addressOf 0 r.offset : BitVec 33) = m) :
    (BitVec.ofBool true ++ addressOf 0 r.offset : BitVec 33) &&& 0x1FFFFFFFF = m := by
  rw [← h]
  exact BitVec.and_allOnes

theorem wellFormed_reserved {off : Offset} (h : (off.toNat % 4 == 0 && decide (0x40 ≤ off.toNat)) = true) :
    off.toNat % 4 = 0 := by
  simp only [Bool.and_eq_true, beq_iff_eq] at h
  exact h.1

theorem wellFormed_window {off : Offset} (h : (off.toNat % 4 == 0) = true) : off.toNat % 4 = 0 := by
  simpa using h

/-- `TYPE_FROM_BYTES` encodes into its row. -/
theorem typeFromBytes : Statement .typeFromBytes := fun _ => rfl

/-- `TYPE_FROM_TEXT` encodes into its row. -/
theorem typeFromText : Statement .typeFromText := fun _ => rfl

/-- `CHUNK_NEW` encodes into its row. -/
theorem chunkNew : Statement .chunkNew := fun _ => rfl

/-- `CHUNK_DECODE` encodes into its row. -/
theorem chunkDecode : Statement .chunkDecode := fun _ => rfl

/-- `CHUNK_ENCODE` encodes into its row. -/
theorem chunkEncode : Statement .chunkEncode := fun _ => rfl

/-- `DATA_AS_TEXT` encodes into its row. -/
theorem dataAsText : Statement .dataAsText := fun _ => rfl

/-- `CHUNK_DISCARD` encodes into its row. -/
theorem chunkDiscard : Statement .chunkDiscard := fun _ => rfl

/-- `CRC_CLEAR` encodes into its row. -/
theorem crcClear : Statement .crcClear := fun _ => rfl

/-- `CRC_ACCUM` encodes into its row. -/
theorem crcAccum : Statement .crcAccum := fun _ => rfl

/-- `ILLEGAL_CMD` encodes into its row. -/
theorem illegalCmd (w : Word) : Statement (.illegalCmd w) := matches_of_mask_zero rfl rfl

/-- `RD_MISALIGNED_1` encodes into its row. -/
theorem rdMisaligned1 (a : Word) : Statement (.rdMisaligned1 a) := misaligned_matches false a 1 (by decide)

/-- `RD_MISALIGNED_2` encodes into its row. -/
theorem rdMisaligned2 (a : Word) : Statement (.rdMisaligned2 a) := misaligned_matches false a 2 (by decide)

/-- `RD_MISALIGNED_3` encodes into its row. -/
theorem rdMisaligned3 (a : Word) : Statement (.rdMisaligned3 a) := misaligned_matches false a 3 (by decide)

/-- `WR_MISALIGNED_1` encodes into its row. -/
theorem wrMisaligned1 (a : Word) (w : Word) : Statement (.wrMisaligned1 a w) := misaligned_matches true a 1 (by decide)

/-- `WR_MISALIGNED_2` encodes into its row. -/
theorem wrMisaligned2 (a : Word) (w : Word) : Statement (.wrMisaligned2 a w) := misaligned_matches true a 2 (by decide)

/-- `WR_MISALIGNED_3` encodes into its row. -/
theorem wrMisaligned3 (a : Word) (w : Word) : Statement (.wrMisaligned3 a w) := misaligned_matches true a 3 (by decide)

/-- `RD_ID` encodes into its row. -/
theorem rdId : Statement .rdId := fun _ => rfl

/-- `WR_ID` encodes into its row. -/
theorem wrId (w : Word) : Statement (.wrId w) :=
  fun _ => register_matches .id 0x100000000 (by decide)

/-- `RD_PARAM` encodes into its row. -/
theorem rdParam : Statement .rdParam := fun _ => rfl

/-- `WR_PARAM` encodes into its row. -/
theorem wrParam (w : Word) : Statement (.wrParam w) :=
  fun _ => register_matches .param 0x100000004 (by decide)

/-- `RD_CTRL` encodes into its row. -/
theorem rdCtrl : Statement .rdCtrl := fun _ => rfl

/-- `WR_CTRL` encodes into its row. -/
theorem wrCtrl (w : Word) : Statement (.wrCtrl w) :=
  fun _ => register_matches .ctrl 0x100000008 (by decide)

/-- `RD_STATUS` encodes into its row. -/
theorem rdStatus : Statement .rdStatus := fun _ => rfl

/-- `WR_STATUS` encodes into its row. -/
theorem wrStatus (w : Word) : Statement (.wrStatus w) :=
  fun _ => register_matches .status 0x10000000C (by decide)

/-- `RD_CMD` encodes into its row. -/
theorem rdCmd : Statement .rdCmd := fun _ => rfl

/-- `WR_CMD` encodes into its row. -/
theorem wrCmd (w : Word) : Statement (.wrCmd w) :=
  fun _ => register_matches .cmd 0x100000010 (by decide)

/-- `RD_TYPE_IN` encodes into its row. -/
theorem rdTypeIn : Statement .rdTypeIn := fun _ => rfl

/-- `WR_TYPE_IN` encodes into its row. -/
theorem wrTypeIn (w : Word) : Statement (.wrTypeIn w) :=
  fun _ => register_matches .typeIn 0x100000014 (by decide)

/-- `RD_IBUF_LEN` encodes into its row. -/
theorem rdIbufLen : Statement .rdIbufLen := fun _ => rfl

/-- `WR_IBUF_LEN` encodes into its row. -/
theorem wrIbufLen (w : Word) : Statement (.wrIbufLen w) :=
  fun _ => register_matches .ibufLen 0x100000018 (by decide)

/-- `RD_TAG` encodes into its row. -/
theorem rdTag : Statement .rdTag := fun _ => rfl

/-- `WR_TAG` encodes into its row. -/
theorem wrTag (w : Word) : Statement (.wrTag w) :=
  fun _ => register_matches .tag 0x10000001C (by decide)

/-- `RD_TAG_FLAGS` encodes into its row. -/
theorem rdTagFlags : Statement .rdTagFlags := fun _ => rfl

/-- `WR_TAG_FLAGS` encodes into its row. -/
theorem wrTagFlags (w : Word) : Statement (.wrTagFlags w) :=
  fun _ => register_matches .tagFlags 0x100000020 (by decide)

/-- `RD_CH_TYPE` encodes into its row. -/
theorem rdChType : Statement .rdChType := fun _ => rfl

/-- `WR_CH_TYPE` encodes into its row. -/
theorem wrChType (w : Word) : Statement (.wrChType w) :=
  fun _ => register_matches .chType 0x100000024 (by decide)

/-- `RD_CH_FLAGS` encodes into its row. -/
theorem rdChFlags : Statement .rdChFlags := fun _ => rfl

/-- `WR_CH_FLAGS` encodes into its row. -/
theorem wrChFlags (w : Word) : Statement (.wrChFlags w) :=
  fun _ => register_matches .chFlags 0x100000028 (by decide)

/-- `RD_CH_LEN` encodes into its row. -/
theorem rdChLen : Statement .rdChLen := fun _ => rfl

/-- `WR_CH_LEN` encodes into its row. -/
theorem wrChLen (w : Word) : Statement (.wrChLen w) :=
  fun _ => register_matches .chLen 0x10000002C (by decide)

/-- `RD_CH_CRC` encodes into its row. -/
theorem rdChCrc : Statement .rdChCrc := fun _ => rfl

/-- `WR_CH_CRC` encodes into its row. -/
theorem wrChCrc (w : Word) : Statement (.wrChCrc w) :=
  fun _ => register_matches .chCrc 0x100000030 (by decide)

/-- `RD_OBUF_LEN` encodes into its row. -/
theorem rdObufLen : Statement .rdObufLen := fun _ => rfl

/-- `WR_OBUF_LEN` encodes into its row. -/
theorem wrObufLen (w : Word) : Statement (.wrObufLen w) :=
  fun _ => register_matches .obufLen 0x100000034 (by decide)

/-- `RD_CRC_ACC` encodes into its row. -/
theorem rdCrcAcc : Statement .rdCrcAcc := fun _ => rfl

/-- `WR_CRC_ACC` encodes into its row. -/
theorem wrCrcAcc (w : Word) : Statement (.wrCrcAcc w) :=
  fun _ => register_matches .crcAcc 0x100000038 (by decide)

/-- `RD_CRC_VALUE` encodes into its row. -/
theorem rdCrcValue : Statement .rdCrcValue := fun _ => rfl

/-- `WR_CRC_VALUE` encodes into its row. -/
theorem wrCrcValue (w : Word) : Statement (.wrCrcValue w) :=
  fun _ => register_matches .crcValue 0x10000003C (by decide)

/-- `RD_REG_RESERVED` encodes into its row. -/
theorem rdRegReserved (off : Offset) : Statement (.rdRegReserved off) := fun h => region_matches false 0 off (wellFormed_reserved h)

/-- `WR_REG_RESERVED` encodes into its row. -/
theorem wrRegReserved (off : Offset) (w : Word) : Statement (.wrRegReserved off w) := fun h => region_matches true 0 off (wellFormed_reserved h)

/-- `RD_IBUF` encodes into its row. -/
theorem rdIbuf (off : Offset) : Statement (.rdIbuf off) := fun h => region_matches false 1 off (wellFormed_window h)

/-- `WR_IBUF` encodes into its row. -/
theorem wrIbuf (off : Offset) (w : Word) : Statement (.wrIbuf off w) := fun h => region_matches true 1 off (wellFormed_window h)

/-- `RD_CHDATA` encodes into its row. -/
theorem rdChdata (off : Offset) : Statement (.rdChdata off) := fun h => region_matches false 2 off (wellFormed_window h)

/-- `WR_CHDATA` encodes into its row. -/
theorem wrChdata (off : Offset) (w : Word) : Statement (.wrChdata off w) := fun h => region_matches true 2 off (wellFormed_window h)

/-- `RD_OBUF` encodes into its row. -/
theorem rdObuf (off : Offset) : Statement (.rdObuf off) := fun h => region_matches false 3 off (wellFormed_window h)

/-- `WR_OBUF` encodes into its row. -/
theorem wrObuf (off : Offset) (w : Word) : Statement (.wrObuf off w) := fun h => region_matches true 3 off (wellFormed_window h)

end Sys2Proof.Laws.MatchesTableRow
end

