-- ==== Sys2Proof/Tests/Slice0.lean ====
section
/-! SUPPORT. The model's own tests: ill-formed terms, one decoding for every constructor, one-step tests with the vectors of
95_test_vectors, and a witness for the hypotheses of every obligation. Expected values come from the spec's tables. -/

namespace Sys2Proof.Tests

-- One theorem at a time: elaborated together, these tests hold many threads while the kernel checks them one by one.
set_option Elab.async false

open Sys2Proof.Machine

/-! ## Well-formedness: every check refuses a term -/

theorem test_illformed_illegalCmd : Instr.wellFormed (.illegalCmd 1) = false ∧ Instr.wellFormed (.illegalCmd 9) = false := by decide
theorem test_illformed_rdMisaligned1 : Instr.wellFormed (.rdMisaligned1 0x2) = false := by decide
theorem test_illformed_rdMisaligned2 : Instr.wellFormed (.rdMisaligned2 0x3) = false := by decide
theorem test_illformed_rdMisaligned3 : Instr.wellFormed (.rdMisaligned3 0x0) = false := by decide
theorem test_illformed_wrMisaligned1 : Instr.wellFormed (.wrMisaligned1 0x2 5) = false := by decide
theorem test_illformed_wrMisaligned2 : Instr.wellFormed (.wrMisaligned2 0x3 5) = false := by decide
theorem test_illformed_wrMisaligned3 : Instr.wellFormed (.wrMisaligned3 0x0 5) = false := by decide
theorem test_illformed_rdRegReserved : Instr.wellFormed (.rdRegReserved 0x3C) = false ∧ Instr.wellFormed (.rdRegReserved 0x42) = false := by
  decide
theorem test_illformed_wrRegReserved :
    Instr.wellFormed (.wrRegReserved 0x3C 0) = false ∧ Instr.wellFormed (.wrRegReserved 0x42 0) = false := by decide
theorem test_illformed_rdIbuf : Instr.wellFormed (.rdIbuf 0x1) = false := by decide
theorem test_illformed_wrIbuf : Instr.wellFormed (.wrIbuf 0x2 0) = false := by decide
theorem test_illformed_rdChdata : Instr.wellFormed (.rdChdata 0x3) = false := by decide
theorem test_illformed_wrChdata : Instr.wellFormed (.wrChdata 0x1 0) = false := by decide
theorem test_illformed_rdObuf : Instr.wellFormed (.rdObuf 0x2) = false := by decide
theorem test_illformed_wrObuf : Instr.wellFormed (.wrObuf 0x3 0) = false := by decide

/-! ## Decoding: one word for every constructor, written from 30_encoding R93 and R96, 20_memory R61 and 10_state R22 -/

/-- Command words: bits 31:8 `RSVD`, bits 7:0 `OPCODE` (30_encoding R90, R93). -/
theorem test_decode_commands :
    decodeTableWord 32 0b00000000000000000000000000000001 = some .typeFromBytes ∧
    decodeTableWord 32 0b00000000000000000000000000000010 = some .typeFromText ∧
    decodeTableWord 32 0b00000000000000000000000000000011 = some .chunkNew ∧
    decodeTableWord 32 0b00000000000000000000000000000100 = some .chunkDecode ∧
    decodeTableWord 32 0b00000000000000000000000000000101 = some .chunkEncode ∧
    decodeTableWord 32 0b00000000000000000000000000000110 = some .dataAsText ∧
    decodeTableWord 32 0b00000000000000000000000000000111 = some .chunkDiscard ∧
    decodeTableWord 32 0b00000000000000000000000000001000 = some .crcClear ∧
    decodeTableWord 32 0b00000000000000000000000000001001 = some .crcAccum := by decide

/-- Illegal command words: OPCODE 0x00, OPCODE 0x0A, OPCODE 0xFF, and `RSVD` nonzero (30_encoding R95, 95 section 3.7). -/
theorem test_decode_illegal_commands :
    decodeTableWord 32 0x00000000 = some (.illegalCmd 0x00000000) ∧
    decodeTableWord 32 0x0000000A = some (.illegalCmd 0x0000000A) ∧
    decodeTableWord 32 0x000000FF = some (.illegalCmd 0x000000FF) ∧
    decodeTableWord 32 0x00000103 = some (.illegalCmd 0x00000103) ∧
    decodeTableWord 32 0x80000003 = some (.illegalCmd 0x80000003) := by decide

/-- Misaligned rows: bit 32 `we`, bits 1:0 not 00, in any region (20_memory R63). -/
theorem test_decode_misaligned :
    decodeTableWord 40 0b000000000000000000000000000001101 = some (.rdMisaligned1 0x0000000D) ∧
    decodeTableWord 40 0b001000000000000000000000000000010 = some (.rdMisaligned2 0x40000002) ∧
    decodeTableWord 40 0b010000000000000000000000000000011 = some (.rdMisaligned3 0x80000003) ∧
    decodeTableWord 40 0b111000000000000000000000000000001 = some (.wrMisaligned1 0xC0000001 0) ∧
    decodeTableWord 40 0b100000000000000000000000000001110 = some (.wrMisaligned2 0x0000000E 0) ∧
    decodeTableWord 40 0b100000000000000000000000001000011 = some (.wrMisaligned3 0x00000043 0) := by decide

/-- Register reads: `we = 0`, region 00, the offsets of 10_state R22. -/
theorem test_decode_register_reads :
    decodeTableWord 40 0x000000000 = some .rdId ∧ decodeTableWord 40 0x000000004 = some .rdParam ∧
    decodeTableWord 40 0x000000008 = some .rdCtrl ∧ decodeTableWord 40 0x00000000C = some .rdStatus ∧
    decodeTableWord 40 0x000000010 = some .rdCmd ∧ decodeTableWord 40 0x000000014 = some .rdTypeIn ∧
    decodeTableWord 40 0x000000018 = some .rdIbufLen ∧ decodeTableWord 40 0x00000001C = some .rdTag ∧
    decodeTableWord 40 0b000000000000000000000000000100000 = some .rdTagFlags ∧ decodeTableWord 40 0x000000024 = some .rdChType ∧
    decodeTableWord 40 0x000000028 = some .rdChFlags ∧ decodeTableWord 40 0x00000002C = some .rdChLen ∧
    decodeTableWord 40 0x000000030 = some .rdChCrc ∧ decodeTableWord 40 0x000000034 = some .rdObufLen ∧
    decodeTableWord 40 0x000000038 = some .rdCrcAcc ∧ decodeTableWord 40 0x00000003C = some .rdCrcValue := by decide

/-- Register writes: `we = 1`, region 00, the offsets of 10_state R22; the table gives the data word no bits. -/
theorem test_decode_register_writes :
    decodeTableWord 40 0x100000000 = some (.wrId 0) ∧ decodeTableWord 40 0x100000004 = some (.wrParam 0) ∧
    decodeTableWord 40 0x100000008 = some (.wrCtrl 0) ∧ decodeTableWord 40 0x10000000C = some (.wrStatus 0) ∧
    decodeTableWord 40 0b100000000000000000000000000010000 = some (.wrCmd 0) ∧ decodeTableWord 40 0x100000014 = some (.wrTypeIn 0) ∧
    decodeTableWord 40 0x100000018 = some (.wrIbufLen 0) ∧ decodeTableWord 40 0x10000001C = some (.wrTag 0) ∧
    decodeTableWord 40 0x100000020 = some (.wrTagFlags 0) ∧ decodeTableWord 40 0x100000024 = some (.wrChType 0) ∧
    decodeTableWord 40 0x100000028 = some (.wrChFlags 0) ∧ decodeTableWord 40 0x10000002C = some (.wrChLen 0) ∧
    decodeTableWord 40 0x100000030 = some (.wrChCrc 0) ∧ decodeTableWord 40 0x100000034 = some (.wrObufLen 0) ∧
    decodeTableWord 40 0x100000038 = some (.wrCrcAcc 0) ∧ decodeTableWord 40 0x10000003C = some (.wrCrcValue 0) := by decide

/-- Reserved offsets and windows: bits 31:30 the region, bits 29:0 the offset (20_memory R61, R66). -/
theorem test_decode_regions :
    decodeTableWord 40 0x000000040 = some (.rdRegReserved 0x40) ∧ decodeTableWord 40 0x13FFFFFFC = some (.wrRegReserved 0x3FFFFFFC 0) ∧
    decodeTableWord 40 0b001000000000000000000000001001100 = some (.rdIbuf 0x4C) ∧
    decodeTableWord 40 0b101000000000000000000000000101000 = some (.wrIbuf 0x28 0) ∧
    decodeTableWord 40 0x080000000 = some (.rdChdata 0) ∧ decodeTableWord 40 0x180000000 = some (.wrChdata 0 0) ∧
    decodeTableWord 40 0b011000000000000000000000000110100 = some (.rdObuf 0x34) ∧
    decodeTableWord 40 0x1FFFFFFFC = some (.wrObuf 0x3FFFFFFC 0) := by decide

/-- A command word of more than 32 bits, and a key with a bit above bit 32, are refused by name. -/
theorem test_decode_refuses_wide_words :
    formOfNat 32 0x100000000 = .error .commandWordTooWide ∧ formOfNat 40 0x200000000 = .error .busKeyTooWide ∧
    decodeTableWord 40 0x8000000000 = none := by
  refine ⟨rfl, rfl, by decide⟩

/-! ## States for the tests: `DATA_MAX = 64`, as in 95_test_vectors -/

/-- The reset state of a block with `DATA_MAX = 64`. -/
def base : State := { State.reset with dataWords := 16 }

/-- The same block after the host has staged a byte string in IBUF and its length. -/
def loaded (d : List Byte) : State := { base with ibuf := Memory.writeBytes [] 0 d, ibufLen := BitVec.ofNat 32 d.length }

/-- The same block with the byte string at the start of CHDATA and a chunk of type "RuSt" that holds it. -/
def holding (d : List Byte) (crc : Word) : State :=
  { base with chValid := true, chType := 0x52755374, chLen := BitVec.ofNat 32 d.length, chCrc := crc, chdata := Memory.writeBytes [] 0 d }

/-- The state an outcome leads to, if it leads to one. -/
def nextOf (o : Host.Outcome State Fault Refusal) : Option State :=
  match o with
  | .next t => some t
  | .fault _ => none
  | .refused _ => none

/-- The state after one instruction; the old state if there is none. -/
def after (i : Instr) (s : State) : State := (nextOf (exec i s)).getD s

/-- The outcome of one instruction is a next state that passes a check. -/
def passes (i : Instr) (s : State) (p : State → Bool) : Bool := (nextOf (exec i s)).any p

/-- "123456789". -/
def digits : List Byte := [0x31, 0x32, 0x33, 0x34, 0x35, 0x36, 0x37, 0x38, 0x39]

/-- The 42-byte message of 95_test_vectors section 1.1. -/
def message : List Byte :=
  [0x54, 0x68, 0x69, 0x73, 0x20, 0x69, 0x73, 0x20, 0x77, 0x68, 0x65, 0x72, 0x65, 0x20] ++
  [0x79, 0x6F, 0x75, 0x72, 0x20, 0x73, 0x65, 0x63, 0x72, 0x65, 0x74, 0x20, 0x6D, 0x65] ++
  [0x73, 0x73, 0x61, 0x67, 0x65, 0x20, 0x77, 0x69, 0x6C, 0x6C, 0x20, 0x62, 0x65, 0x21]

/-- The 54-byte frame of 95_test_vectors section 1.1. -/
def frameF : List Byte :=
  [0x00, 0x00, 0x00, 0x2A, 0x52, 0x75, 0x53, 0x74] ++ message ++ [0xAB, 0xD1, 0xD8, 0x4E]

/-- The IEND frame of 42_chunk_framer R170. -/
def frameIend : List Byte := [0x00, 0x00, 0x00, 0x00, 0x49, 0x45, 0x4E, 0x44, 0xAE, 0x42, 0x60, 0x82]

/-! ## Functions (95_test_vectors sections 1.2, 3.1, 3.3, 3.6) -/

theorem test_flags_fixtures :
    tagFlags 0x52755374 = 0x3D ∧ tagFlags 0x72755374 = 0x3C ∧ tagFlags 0x52757374 = 0x29 ∧ tagFlags 0x52755354 = 0x35 ∧
    tagFlags 0x49484452 = 0x37 ∧ tagFlags 0x74455874 = 0x3E ∧ tagFlags 0x00000000 = 0x17 ∧ tagFlags 0x52753174 = 0x09 ∧
    tagFlags 0xFFFFFFFF = 0x08 := by decide +kernel

theorem test_crc_vectors :
    crc32 [] = 0x00000000 ∧ crc32 [0x61] = 0xE8B7BE43 ∧ crc32 digits = 0xCBF43926 ∧ crc32 [0x00] = 0xD202EF8D ∧
    crc32 [0xFF] = 0xFF000000 ∧ crc32 [0x52, 0x75, 0x53, 0x74] = 0xD484093C ∧
    crc32 ([0x52, 0x75, 0x53, 0x74] ++ message) = 0xABD1D84E := by decide +kernel

theorem test_crc_table :
    crcTable 0x01 = 0x77073096 ∧ crcTable 0x08 = 0x0EDB8832 ∧ crcTable 0x80 = 0xEDB88320 ∧ crcTable 0xFF = 0x2D02EF8D := by decide +kernel

theorem test_utf8_accepts :
    utf8Ok [] = true ∧ utf8Ok [0x68, 0xC3, 0xA9, 0x6C, 0x6C, 0x6F] = true ∧ utf8Ok [0xC2, 0x80] = true ∧
    utf8Ok [0xEF, 0xBF, 0xBF] = true ∧ utf8Ok [0xF4, 0x8F, 0xBF, 0xBF] = true ∧ utf8Ok [0x00] = true := by decide +kernel

theorem test_utf8_rejects :
    utf8Ok [0xC0, 0x80] = false ∧ utf8Ok [0xE0, 0x9F, 0x80] = false ∧ utf8Ok [0xED, 0xA0, 0x80] = false ∧
    utf8Ok [0xF0, 0x8F, 0xBF, 0xBF] = false ∧ utf8Ok [0xF4, 0x90, 0x80, 0x80] = false ∧ utf8Ok [0xF5, 0x80, 0x80, 0x80] = false ∧
    utf8Ok [0xE2, 0x82] = false ∧ utf8Ok [0x80] = false := by decide +kernel

/-! ## Commands (95_test_vectors sections 1.3, 1.4, 3.2, 3.4, 3.5, 3.6) -/

theorem test_typeFromBytes :
    passes .typeFromBytes { base with typeIn := 0x31323334 } (fun t => t.tag == 0x31323334 && t.regVal .tagFlags == 0x08 && t.err == .ok) =
      true := by decide +kernel

theorem test_typeFromText_accepts :
    passes .typeFromText (loaded [0x41, 0x5A, 0x61, 0x7A]) (fun t => t.tag == 0x415A617A && t.err == .ok && t.done) = true := by
  decide +kernel

theorem test_typeFromText_rejects :
    passes .typeFromText (loaded [0x60, 0x61, 0x7A, 0x7B]) (fun t => t.tag == 0 && t.err == .format && t.cause == .textNotAlpha) = true ∧
    passes .typeFromText (loaded [0x52, 0x75, 0x53]) (fun t => t.err == .format && t.cause == .textLength) = true := by decide +kernel

theorem test_chunkNew :
    passes .chunkNew { loaded message with tag := 0x52755374 }
      (fun t => t.chLen == 42 && t.chCrc == 0xABD1D84E && t.chValid && t.chdataWord 40 == 0x65210000 && t.crcAcc == 0xFFFFFFFF) =
      true := by decide +kernel

theorem test_chunkNew_capacity :
    passes .chunkNew { base with ibufLen := 65 } (fun t => t.err == .capacity && !t.chValid) = true := by decide +kernel

theorem test_chunkDecode_accepts :
    passes .chunkDecode (loaded frameIend)
      (fun t => t.chType == 0x49454E44 && t.chLen == 0 && t.chCrc == 0xAE426082 && t.regVal .chFlags == 0x37 && t.err == .ok) = true ∧
    passes .chunkDecode (loaded frameF) (fun t => t.chType == 0x52755374 && t.chLen == 42 && t.chCrc == 0xABD1D84E) = true := by
  decide +kernel

theorem test_chunkDecode_rejects :
    passes .chunkDecode { loaded frameF with ibufLen := 55, ibuf := Memory.writeBytes [] 0 (frameF ++ [0x00]) }
      (fun t => t.err == .format && t.cause == .lengthMismatch) = true ∧
    passes .chunkDecode { base with ibufLen := 77 } (fun t => t.err == .capacity) = true ∧
    passes .chunkDecode (loaded (flipBit frameF 8 0)) (fun t => t.err == .crcMismatch && !t.chValid) = true ∧
    passes .chunkDecode (loaded (flipBit frameF 3 0)) (fun t => t.err == .format && t.cause == .lengthMismatch) = true ∧
    passes .chunkDecode (loaded (frameIend.take 11)) (fun t => t.err == .format && t.cause == .frameTooShort) = true := by decide +kernel

theorem test_chunkEncode :
    passes .chunkEncode (holding message 0xABD1D84E)
      (fun t => t.obufLen == 54 && t.obufWord 0x00 == 0x0000002A && t.obufWord 0x04 == 0x52755374 && t.obufWord 0x30 == 0x6521ABD1 &&
        t.obufWord 0x34 == 0xD84E0000 && t.obufWord 0x38 == 0) = true := by decide +kernel

theorem test_chunkEncode_noChunk :
    passes .chunkEncode base (fun t => t.err == .noChunk && t.obufLen == 0 && t.obuf == []) = true := by decide +kernel

theorem test_dataAsText :
    passes .dataAsText (holding [0xC0, 0x80] 0x6DB4534E) (fun t => t.err == .encoding && t.chValid) = true ∧
    passes .dataAsText (holding message 0xABD1D84E) (fun t => t.err == .ok) = true ∧
    passes .dataAsText base (fun t => t.err == .noChunk) = true := by decide +kernel

theorem test_chunkDiscard :
    passes .chunkDiscard (holding message 0xABD1D84E)
      (fun t => !t.chValid && t.chLen == 0 && t.chType == 0 && t.chCrc == 0 && t.regVal .chFlags == 0x17 && t.chdataWord 0 == 0) = true := by
  decide +kernel

theorem test_crcClear :
    passes .crcClear { base with crcAcc := 0x641C1F5C } (fun t => t.regVal .crcValue == 0 && t.crcAcc == 0xFFFFFFFF) = true := by
  decide +kernel

theorem test_crcAccum :
    passes .crcAccum { loaded (digits.drop 4) with crcAcc := 0x641C1F5C } (fun t => t.regVal .crcValue == 0xCBF43926) = true ∧
    passes .crcAccum { base with ibufLen := 77, crcAcc := 0x340BC6D9 } (fun t => t.crcAcc == 0x340BC6D9 && t.err == .capacity) = true := by
  decide +kernel

theorem test_illegalCmd :
    passes (.illegalCmd 0x0000000A) (base.accept 0x0000000A) (fun t => t.regVal .status == 0x0A000062) = true ∧
    passes (.illegalCmd 0x00000103) (base.accept 0x00000103) (fun t => t.regVal .status == 0x03000062) = true := by decide +kernel

/-! ## Bus transactions (95_test_vectors section 3.7, 20_memory R63-R66) -/

theorem test_register_reads_after_reset :
    passes .rdId base (·.rdata == 0x504E4743) = true ∧ passes .rdParam base (·.rdata == 0x00000040) = true ∧
    passes .rdCtrl base (·.rdata == 0) = true ∧ passes .rdStatus base (·.rdata == 0) = true ∧
    passes .rdCmd base (·.rdata == 0) = true ∧ passes .rdTypeIn base (·.rdata == 0) = true ∧
    passes .rdIbufLen base (·.rdata == 0) = true ∧ passes .rdTag base (·.rdata == 0) = true ∧
    passes .rdTagFlags base (·.rdata == 0x17) = true ∧ passes .rdChType base (·.rdata == 0) = true ∧
    passes .rdChFlags base (·.rdata == 0x17) = true ∧ passes .rdChLen base (·.rdata == 0) = true ∧
    passes .rdChCrc base (·.rdata == 0) = true ∧ passes .rdObufLen base (·.rdata == 0) = true ∧
    passes .rdCrcAcc base (·.rdata == 0xFFFFFFFF) = true ∧ passes .rdCrcValue base (·.rdata == 0) = true := by decide +kernel

/-- The end state of program P1 (95_test_vectors section 4): chunk valid, done, `LAST_OP` 0x05. -/
theorem test_rdStatus_fields :
    passes .rdStatus { base with chValid := true, done := true, lastOp := 0x05 } (·.rdata == 0x05000006) = true ∧
    passes .rdStatus { base with buserr := true, wrbusy := true, busy := true } (·.rdata == 0x00030001) = true := by decide +kernel

theorem test_misaligned_accesses :
    passes (.rdMisaligned1 0x0D) { base with rdata := 7 } (fun t => t.rdata == 0 && t.buserr) = true ∧
    passes (.rdMisaligned2 0x0E) { base with rdata := 7 } (fun t => t.rdata == 0 && t.buserr) = true ∧
    passes (.rdMisaligned3 0x0F) { base with rdata := 7 } (fun t => t.rdata == 0 && t.buserr) = true ∧
    passes (.wrMisaligned1 0x09 1) base (fun t => !t.ctrlIe && t.buserr) = true ∧
    passes (.wrMisaligned2 0x0E 1) base (fun t => t.buserr) = true ∧
    passes (.wrMisaligned3 0x17 1) base (fun t => t.typeIn == 0 && t.buserr) = true := by decide +kernel

theorem test_reserved_accesses :
    passes (.rdRegReserved 0x100) { base with rdata := 7 } (fun t => t.rdata == 0 && t.buserr) = true ∧
    passes (.wrRegReserved 0x40 1) base (·.buserr) = true ∧
    passes (.rdIbuf 0x4C) base (fun t => t.rdata == 0 && t.buserr) = true := by decide +kernel

theorem test_window_reads :
    passes (.rdIbuf 0) (loaded digits) (fun t => t.rdata == 0x31323334 && !t.buserr) = true ∧
    passes (.rdChdata 0) base (fun t => t.rdata == 0 && !t.buserr) = true ∧
    passes (.rdChdata 4) (holding [1, 2, 3, 4, 5, 6] 0) (fun t => t.rdata == 0x05060000) = true ∧
    passes (.rdObuf 0x30) (after .chunkEncode (holding message 0xABD1D84E)) (fun t => t.rdata == 0x6521ABD1) = true ∧
    passes (.rdObuf 0x4C) base (fun t => t.rdata == 0 && t.buserr) = true := by decide +kernel

theorem test_readonly_writes :
    passes (.wrTag 5) base (fun t => t.tag == 0 && t.buserr) = true ∧ passes (.wrId 5) base (·.buserr) = true ∧
    passes (.wrParam 5) base (·.buserr) = true ∧ passes (.wrTagFlags 5) base (·.buserr) = true ∧
    passes (.wrChType 5) base (·.buserr) = true ∧ passes (.wrChFlags 5) base (·.buserr) = true ∧
    passes (.wrChLen 5) base (fun t => t.chLen == 0 && t.buserr) = true ∧ passes (.wrChCrc 5) base (·.buserr) = true ∧
    passes (.wrObufLen 5) base (fun t => t.obufLen == 0 && t.buserr) = true ∧
    passes (.wrCrcAcc 5) base (fun t => t.crcAcc == 0xFFFFFFFF && t.buserr) = true ∧ passes (.wrCrcValue 5) base (·.buserr) = true ∧
    passes (.wrChdata 0 1) base (fun t => t.chdata == [] && t.buserr) = true ∧
    passes (.wrObuf 0 1) base (fun t => t.obuf == [] && t.buserr) = true := by decide +kernel

theorem test_wrCtrl : passes .rdCtrl (after (.wrCtrl 0xFFFFFFFF) base) (·.rdata == 0x00000001) = true := by decide +kernel

theorem test_wrStatus :
    passes (.wrStatus 0x00010000) { base with buserr := true, wrbusy := true, done := true } (fun t => !t.buserr && t.wrbusy && t.done) =
      true ∧
    passes (.wrStatus 0x00030002) { base with buserr := true, wrbusy := true, done := true } (·.regVal .status == 0) = true := by
  decide +kernel

theorem test_wrCmd :
    passes (.wrCmd 0x00000103) { base with done := true } (fun t => t.regVal .status == 0x03000001 && t.pend == 0x00000103) = true ∧
    passes (.wrCmd 0x00000005) (base.accept 0x00000003) (fun t => t.pend == 0x00000003 && t.wrbusy) = true := by decide +kernel

theorem test_wrTypeIn :
    passes (.wrTypeIn 0x52755374) base (·.typeIn == 0x52755374) = true ∧
    passes (.wrTypeIn 0x52755374) (base.accept 1) (fun t => t.typeIn == 0 && t.wrbusy) = true := by decide +kernel

theorem test_wrIbufLen :
    passes (.wrIbufLen 0xFFFFFFFF) base (·.ibufLen == 0xFFFFFFFF) = true ∧
    passes (.wrIbufLen 4) (base.accept 1) (fun t => t.ibufLen == 0 && t.wrbusy) = true := by decide +kernel

theorem test_wrIbuf :
    passes (.wrIbuf 72 0x11223344) base (fun t => t.ibufByte 72 == 0x11 && t.ibufByte 75 == 0x44 && t.ibuf.wf) = true ∧
    passes (.wrIbuf 76 0x11223344) (base.accept 1) (fun t => t.buserr && !t.wrbusy && t.ibuf == []) = true ∧
    passes (.wrIbuf 0 0x11223344) (base.accept 1) (fun t => t.wrbusy && t.ibuf == []) = true := by decide +kernel

/-! ## The step and the host's placement of an instruction -/

theorem test_step_runs_placed_command :
    (nextOf (step (State.reset.withFetchWord 32 0x00000008))).map (fun t => (t.done, t.busy, t.lastOp, t.crcAcc)) =
      some (true, false, 0x08, 0xFFFFFFFF) := by decide +kernel

theorem test_step_runs_placed_read :
    (nextOf (step (State.reset.withFetchWord 40 0x000000020))).map (·.rdata) = some 0x17 := by decide +kernel

theorem test_step_runs_placed_write :
    (nextOf (step (State.reset.withFetchWord 40 0x100000010))).map (fun t => (t.busy, t.sched)) = some (true, []) := by decide +kernel

theorem test_step_reset_abandons_command :
    (nextOf (step { base.accept 0x00000001 with sched := [.rst, .seq] })).map (fun t => (t.busy, t.done, t.lastOp, t.sched, t.dataWords)) =
      some (false, false, 0x00, [.seq], 16) := by decide +kernel

/-! ## Witnesses: a state and operands that meet the hypotheses of each obligation, clause by clause -/

/-- An outcome that passes a check is a next state that passes it. -/
theorem next_of_any {o : Host.Outcome State Fault Refusal} {p : State → Bool} (h : (nextOf o).any p = true) :
    ∃ t, o = .next t ∧ p t = true := by
  cases o with
  | next t => exact ⟨t, rfl, by simpa [nextOf] using h⟩
  | fault r => simp [nextOf] at h
  | refused r => simp [nextOf] at h

/-- The host writes the word of CRC_CLEAR to `CMD` next. -/
def sCmd : State := { base with sched := [.host ⟨true, 0x00000010, 0x00000008⟩] }

/-- A command word is in flight and the sequencer moves next. -/
def sSeq (w : Word) : State := { base.accept w with sched := [.seq] }

/-- A command is in flight and `rst` comes next. -/
def sRst : State := { base.accept 0x00000008 with sched := [.rst] }

/-- The host writes `STATUS` next, all bits 1. -/
def sW1c : State := { base with done := true, buserr := true, wrbusy := true, sched := [.host ⟨true, 0x0000000C, 0xFFFFFFFF⟩] }

/-- A command is in flight and the host writes `TYPE_IN` next. -/
def sBlocked : State := { base.accept 0x00000008 with sched := [.host ⟨true, 0x00000014, 0x52755374⟩] }

theorem test_witness_DecodeOfEncodeIsIdentity :
    Instr.WellFormed (.illegalCmd 0) ∧ Instr.WellFormed (.illegalCmd 0xA) ∧ Instr.WellFormed (.illegalCmd 0xFFFFFFFF) ∧
    Instr.WellFormed (.rdMisaligned3 0xFFFFFFFF) ∧ Instr.WellFormed (.rdRegReserved 0x40) ∧ Instr.WellFormed (.wrRegReserved 0x3FFFFFFC 1) ∧
    Instr.WellFormed (.rdIbuf 0x3FFFFFFC) ∧ Instr.WellFormed (.wrObuf 0 7) ∧ Instr.WellFormed .chunkNew := by decide

theorem test_witness_CommandWordSelectsExactlyOneCommand : decodeCmd 0x0000000A = .illegalCmd 0x0000000A := by decide

/-- The first and the last aligned address of each region, and a misaligned address of each kind. -/
theorem test_witness_RegisterMapDecodes :
    (¬Misaligned 0x00000040 ∧ regionOf 0x00000040 = 0 ∧ 0x40 ≤ offsetOf 0x00000040) ∧
    (¬Misaligned 0x3FFFFFFC ∧ regionOf 0x3FFFFFFC = 0 ∧ 0x40 ≤ offsetOf 0x3FFFFFFC) ∧
    (¬Misaligned 0x40000000 ∧ regionOf 0x40000000 = 1 ∧ ¬Misaligned 0x7FFFFFFC ∧ regionOf 0x7FFFFFFC = 1) ∧
    (¬Misaligned 0x80000000 ∧ regionOf 0x80000000 = 2 ∧ ¬Misaligned 0xBFFFFFFC ∧ regionOf 0xBFFFFFFC = 2) ∧
    (¬Misaligned 0xC0000000 ∧ regionOf 0xC0000000 = 3 ∧ ¬Misaligned 0xFFFFFFFC ∧ regionOf 0xFFFFFFFC = 3) ∧
    ((0x00000001#32).toNat % 4 = 1 ∧ (0x0000003E#32).toNat % 4 = 2 ∧ (0xFFFFFFFF#32).toNat % 4 = 3) := by
  unfold Misaligned
  decide

theorem test_witness_StepRunsTheDecodedInstruction :
    (∃ (s : State) (t : Transaction) (l : List Move), s.sched = .host t :: l) ∧
    (∃ (s : State) (l : List Move), s.sched = .seq :: l ∧ s.busy = true) ∧ (∃ s : State, s.sched = [] ∧ s.busy = true) ∧
    (∃ (s : State) (l : List Move), s.sched = .seq :: l ∧ s.busy = false) ∧ (∃ s : State, s.sched = [] ∧ s.busy = false) ∧
    (∃ (s : State) (l : List Move), s.sched = .rst :: l) :=
  ⟨⟨sCmd, _, _, rfl⟩, ⟨sSeq 8, _, rfl, rfl⟩, ⟨base.accept 8, rfl, rfl⟩, ⟨{ base with sched := [.seq] }, _, rfl, rfl⟩,
    ⟨base, rfl, rfl⟩, ⟨sRst, _, rfl⟩⟩

theorem test_witness_ResetLeavesTheResetValues : sRst.NextIsReset ∧ sRst.busy = true := ⟨⟨_, rfl⟩, rfl⟩

theorem test_witness_MisalignedAccessOnlyFlagsBuserr :
    Misaligned 0x0000000D ∧ Misaligned 0x4000004E ∧ Misaligned 0xFFFFFFFF := by
  unfold Misaligned
  decide

/-- Each reserved range at its first address, and CHDATA with `DATA_MAX = 0`. -/
theorem test_witness_ReservedAccessOnlyFlagsBuserr :
    (base.Reserved 0x00000040 ∧ base.Reserved 0x4000004C ∧ base.Reserved 0x80000040 ∧ base.Reserved 0xC000004C) ∧
    (¬Misaligned 0x00000040 ∧ ¬Misaligned 0x4000004C ∧ ¬Misaligned 0x80000040 ∧ ¬Misaligned 0xC000004C) ∧
    State.dataMax { base with dataWords := 0 } = 0 ∧ regionOf 0x80000000 = 2 := by
  unfold State.Reserved Misaligned
  decide +kernel

/-- The last word inside and the first word outside each window: 72 and 76, 60 and 64. -/
theorem test_witness_window_bounds :
    ((72#30).toNat < base.ibufMax ∧ base.ibufMax ≤ (76#30).toNat) ∧ ((60#30).toNat < base.dataMax ∧ base.dataMax ≤ (64#30).toNat) ∧
    ((72#30).toNat < base.obufMax ∧ base.obufMax ≤ (76#30).toNat) := by decide +kernel

theorem test_witness_busy_both_ways : base.busy = false ∧ (base.accept 1).busy = true := ⟨rfl, rfl⟩

theorem test_witness_IbufWriteStoresFourBytes :
    base.ibufMax ≤ (76#30).toNat ∧ ((72#30).toNat < (base.accept 1).ibufMax ∧ (base.accept 1).busy = true) ∧
    ((72#30).toNat < base.ibufMax ∧ base.busy = false) := by decide +kernel

theorem test_witness_IbufWordReadsBack :
    ∃ t, (72#30).toNat < base.ibufMax ∧ (0#30).toNat < base.ibufMax ∧ base.busy = false ∧ (72#30).toNat % 4 = 0 ∧ (0#30).toNat % 4 = 0 ∧
      exec (.wrIbuf 72 5) base = .next t := by
  obtain ⟨t, h, _⟩ := next_of_any (o := exec (.wrIbuf 72 5) base) (p := fun _ => true) (by decide +kernel)
  exact ⟨t, by decide +kernel, by decide +kernel, rfl, by decide, by decide, h⟩

/-- The storage form of a state whose buffers hold nothing. -/
theorem base_memoryOk : base.MemoryOk where
  ibuf_wf := rfl
  chdata_wf := rfl
  obuf_wf := rfl
  ibuf_backed := by intro c h; cases h
  chdata_backed := by intro c h; cases h
  obuf_backed := by intro c h; cases h

theorem test_witness_RepeatedWriteIsIdempotent :
    base.MemoryOk ∧ (∃ t, exec (.wrCtrl 1) base = .next t) ∧ (∃ t, exec (.wrStatus 2) base = .next t) ∧
    (∃ t, exec (.wrTypeIn 1) base = .next t) ∧ (∃ t, exec (.wrIbufLen 1) base = .next t) ∧ (∃ t, exec (.wrIbuf 0 1) base = .next t) :=
  ⟨base_memoryOk, ⟨_, rfl⟩, ⟨_, rfl⟩, ⟨_, rfl⟩, ⟨_, rfl⟩, ⟨_, rfl⟩⟩

theorem test_witness_TypeFromTextTakesFourLetters :
    (base.ibufLen.toNat ≠ 4) ∧
    ((loaded [0x41, 0x5B, 0x61, 0x7A]).ibufLen.toNat = 4 ∧ ¬IsLetter ((loaded [0x41, 0x5B, 0x61, 0x7A]).ibufByte 1).toNat) ∧
    ((loaded [0x41, 0x5A, 0x61, 0x7A]).ibufLen.toNat = 4 ∧ ∀ i, i < 4 → IsLetter ((loaded [0x41, 0x5A, 0x61, 0x7A]).ibufByte i).toNat) := by
  unfold IsLetter
  decide +kernel

theorem test_witness_CrcAccumFeedsIbuf :
    (State.ibufLen { base with ibufLen := 76 }).toNat ≤ base.ibufMax ∧ base.ibufMax < (State.ibufLen { base with ibufLen := 77 }).toNat := by
  decide +kernel

theorem test_witness_CrcChainsAcrossPieces :
    ∃ (s : State) (p : List Byte), p ≠ [] ∧ s.crcAcc = crcRun 0xFFFFFFFF#32 p ∧ s.ibufLen.toNat ≤ s.ibufMax ∧ s.ibufLen ≠ 0 :=
  ⟨{ loaded (digits.drop 4) with crcAcc := 0x641C1F5C }, digits.take 4, by decide, by decide +kernel, by decide +kernel, by decide +kernel⟩

theorem test_witness_CrcDetectsEverySingleBitError : 8 < digits.length ∧ 7 < 8 := by decide

theorem test_witness_ChunkNewBuildsTheChunk :
    (State.ibufLen { base with ibufLen := 64 }).toNat ≤ base.dataMax ∧ base.dataMax < (State.ibufLen { base with ibufLen := 65 }).toNat := by
  decide +kernel

theorem test_witness_ChunkEncodeWritesTheFrame : (holding message 0xABD1D84E).chValid = true ∧ base.chValid = false := ⟨rfl, rfl⟩

/-- Each outcome of CHUNK_DECODE: 77 bytes, 11 bytes, a wrong length (D4), a wrong CRC (D5), and the frame of section 1.1. -/
theorem test_witness_ChunkDecodeChecksTheFrame :
    base.ibufMax < 77 ∧ 11 < 12 ∧
    (12 ≤ base.ibufMax ∧ (be32 ((loaded ([0, 0, 0, 1] ++ frameIend.drop 4)).ibufSlice 0 4)).toNat ≠ 12 - 12) ∧
    ((be32 ((loaded (frameIend.take 8 ++ [0, 0, 0, 0])).ibufSlice 0 4)).toNat = 12 - 12 ∧
      crc32 ((loaded (frameIend.take 8 ++ [0, 0, 0, 0])).ibufSlice 4 4) ≠ be32 ((loaded (frameIend.take 8 ++ [0, 0, 0, 0])).ibufSlice 8 4)) ∧
    ((loaded frameF).ibufLen.toNat = 54 ∧ 54 ≤ base.ibufMax ∧ (be32 ((loaded frameF).ibufSlice 0 4)).toNat = 54 - 12 ∧
      crc32 ((loaded frameF).ibufSlice 4 46) = be32 ((loaded frameF).ibufSlice 50 4)) := by decide +kernel

theorem test_witness_DataAsTextGivesTheVerdict :
    base.chValid = false ∧ utf8Ok ((holding [0xC0, 0x80] 0x6DB4534E).chdataBytes 2) = false ∧
    utf8Ok ((holding message 0xABD1D84E).chdataBytes 42) = true := by decide +kernel

/-- The round trip of program P2: CHUNK_NEW, CHUNK_ENCODE, OBUF copied to IBUF. -/
theorem test_witness_ChunkRoundTripsThroughTheFrame :
    ∃ s t u v : State, s.ibufLen.toNat ≤ s.dataMax ∧ exec .chunkNew s = .next t ∧ exec .chunkEncode t = .next u ∧
      v.dataWords = s.dataWords ∧ v.ibufLen = u.obufLen ∧ ∀ i, i < u.obufLen.toNat → v.ibufByte i = u.obufByte i := by
  let s : State := { loaded message with tag := 0x52755374 }
  obtain ⟨t, ht, _⟩ := next_of_any (o := exec .chunkNew s) (p := fun _ => true) (by decide +kernel)
  obtain ⟨u, hu, _⟩ := next_of_any (o := exec .chunkEncode t) (p := fun _ => true) (by
    simp only [exec, execChunkEncode, nextOf, Option.any_some])
  refine ⟨s, t, u, { s with ibufLen := u.obufLen, ibuf := Memory.writeBytes [] 0 (u.obufBytes u.obufLen.toNat) },
    by decide +kernel, ht, hu, rfl, rfl, fun i hi => ?_⟩
  simp only [State.ibufByte, Memory.read?_writeBytes]
  simp [State.obufBytes, hi]

theorem test_witness_EncodeGivesBackTheDecodedBytes :
    ∃ s t : State, exec .chunkDecode s = .next t ∧ t.err = .ok := by
  obtain ⟨t, h, p⟩ := next_of_any (o := exec .chunkDecode (loaded frameF)) (p := fun t => t.err == .ok) (by decide +kernel)
  exact ⟨_, t, h, by simpa using p⟩

/-- A flip in the last byte of the length field (T3), in the first byte after it (T2) and in the CRC field (T4). -/
theorem test_witness_DecodeRejectsEverySingleBitFlip :
    ∃ t, exec .chunkDecode (loaded frameF) = .next t ∧ t.err = .ok ∧
      (loaded (flipBit frameF 3 0)).ibufLen = (loaded frameF).ibufLen ∧
      (loaded (flipBit frameF 3 0)).ibufBytes 54 = flipBit ((loaded frameF).ibufBytes 54) 3 0 ∧
      (loaded (flipBit frameF 4 5)).ibufBytes 54 = flipBit ((loaded frameF).ibufBytes 54) 4 5 ∧
      (loaded (flipBit frameF 53 0)).ibufBytes 54 = flipBit ((loaded frameF).ibufBytes 54) 53 0 := by
  obtain ⟨t, h, p⟩ := next_of_any (o := exec .chunkDecode (loaded frameF)) (p := fun t => t.err == .ok) (by decide +kernel)
  exact ⟨t, h, by simpa using p, by decide +kernel, by decide +kernel, by decide +kernel, by decide +kernel⟩

theorem holding_chunkOk : (holding message 0xABD1D84E).ChunkOk := fun _ => by decide +kernel

theorem test_witness_ObufBeginsWithLengthAndType :
    ∃ t, (holding message 0xABD1D84E).ChunkOk ∧ (holding message 0xABD1D84E).chValid = true ∧
      exec .chunkEncode (holding message 0xABD1D84E) = .next t := ⟨_, holding_chunkOk, rfl, rfl⟩

/-- A command that fails and one that succeeds. -/
theorem test_witness_FailedCommandChangesOnlyTheStatus :
    Instr.isCommand .chunkEncode = true ∧ passes .chunkEncode base (·.err != .ok) = true ∧ passes .crcClear base (·.err == .ok) = true := by
  decide +kernel

/-- Illegal words are well formed up to the edges of the legal ones; a completion changes `ERR` (an illegal word after a success), and
so does reset. -/
theorem test_witness_ErrorsComeOnlyFromTheListedCommands :
    Instr.WellFormed (.illegalCmd 0x00000000) ∧ Instr.WellFormed (.illegalCmd 0x0000000A) ∧ Instr.WellFormed (.illegalCmd 0x00000101) ∧
    (nextOf (step (sSeq 0x0000000A))).any (fun t => t.err != (sSeq 0x0000000A).err) = true ∧
    (nextOf (step { sRst with err := .format, cause := .textLength })).any (fun t => t.err == .ok && t.cause == .none) = true := by
  decide +kernel

theorem test_witness_IrqFollowsDoneAndEnable :
    passes .crcClear { base with ctrlIe := true } (·.irq) = true ∧ passes (.wrCtrl 1) { base with done := true } (·.irq) = true ∧
    passes (.wrStatus 2) { base with ctrlIe := true, done := true } (fun t => !t.irq) = true ∧ (2#32).getLsbD 1 = true ∧
    passes (.wrCmd 1) { base with ctrlIe := true, done := true } (fun t => !t.irq) = true ∧ base.busy = false ∧
    (nextOf (step { sRst with ctrlIe := true, done := true })).any (fun t => !t.irq) = true := by decide +kernel

/-- Each kind of step is taken, and answers: acceptance, completion, reset, a W1C write, a blocked write. -/
theorem test_witness_steps :
    (nextOf (step sCmd)).any (fun t => t.busy && !t.done && t.lastOp == 0x08) = true ∧
    (nextOf (step (sSeq 0x00000008))).any (fun t => !t.busy && t.done) = true ∧
    (nextOf (step sRst)).any (fun t => !t.busy && !t.done) = true ∧
    (nextOf (step sW1c)).any (fun t => !t.done && !t.buserr && !t.wrbusy) = true ∧
    (nextOf (step sBlocked)).any (fun t => t.wrbusy && t.typeIn == 0) = true := by decide +kernel

/-- The kinds of step of the whole-machine rules, each met by one of those states. -/
theorem test_witness_kinds_of_step :
    (sCmd.busy = false ∧ sCmd.NextIsRow (.wrCmd 0x00000008)) ∧ (sSeq 0x00000008).NextCompletes .crcClear ∧ sRst.NextIsReset ∧
    sW1c.NextIsRow (.wrStatus 0xFFFFFFFF) ∧ WritesStatus ⟨true, 0x0000000C, 0xFFFFFFFF⟩ 0xFFFFFFFF ∧
    (sBlocked.busy = true ∧ sBlocked.NextIsHost ⟨true, 0x00000014, 0x52755374⟩ ∧ sBlocked.WriteBlockable 0x00000014) :=
  ⟨⟨rfl, _, ⟨_, rfl⟩, by decide⟩, ⟨⟨rfl, .inr ⟨_, rfl⟩⟩, by decide⟩, ⟨_, rfl⟩, ⟨_, ⟨_, rfl⟩, by decide⟩, ⟨rfl, rfl, rfl⟩,
    rfl, ⟨_, rfl⟩, by unfold State.WriteBlockable Misaligned; decide +kernel⟩

/-- A CHUNK_NEW, a CHUNK_DECODE and a CHUNK_DISCARD at their `Complete` steps; the decode succeeds. -/
theorem test_witness_ChunkSetChangesOnlyByItsCommands :
    (State.NextCompletes { (loaded frameF).accept 0x00000004 with sched := [.seq] } .chunkDecode ∧
      (nextOf (step { (loaded frameF).accept 0x00000004 with sched := [.seq] })).any (fun t => t.err == .ok) = true) ∧
    (sSeq 0x00000003).NextCompletes .chunkNew ∧ (sSeq 0x00000007).NextCompletes .chunkDiscard ∧ State.NoChunkOk (sSeq 0x00000007) :=
  ⟨⟨⟨⟨rfl, .inr ⟨_, rfl⟩⟩, by decide⟩, by decide +kernel⟩, ⟨⟨rfl, .inr ⟨_, rfl⟩⟩, by decide⟩,
    ⟨⟨rfl, .inr ⟨_, rfl⟩⟩, by decide⟩, fun _ => ⟨rfl, rfl, rfl⟩⟩

/-- The changes that the writer rules speak about do happen. -/
theorem test_witness_writers :
    (nextOf (step { sSeq 0x00000001 with typeIn := 7 })).any (fun t => t.tag == 7) = true ∧
    (nextOf (step { sSeq 0x00000003 with tag := 7 })).any (fun t => t.err == .ok && t.chValid && t.chType == 7) = true ∧
    (nextOf (step { sSeq 0x00000007 with chValid := true, chType := 7 })).any (fun t => !t.chValid && t.chType == 0) = true ∧
    (nextOf (step { sSeq 0x00000005 with chValid := true })).any (fun t => t.obufLen == 12) = true ∧
    (nextOf (step { sSeq 0x00000008 with crcAcc := 0 })).any (fun t => t.crcAcc == 0xFFFFFFFF) = true ∧
    (nextOf (step { base with sched := [.host ⟨true, 0x00000008, 1⟩] })).any (·.ctrlIe) = true ∧
    (nextOf (step { base with sched := [.host ⟨true, 0x00000014, 1⟩] })).any (fun t => t.typeIn == 1) = true ∧
    (nextOf (step { base with sched := [.host ⟨true, 0x00000018, 1⟩] })).any (fun t => t.ibufLen == 1) = true ∧
    (nextOf (step { base with sched := [.host ⟨true, 0x40000000, 1⟩] })).any (fun t => t.ibuf != []) = true := by decide +kernel

/-- A bad access of each kind: misaligned, reserved, read-only; and two good ones. -/
theorem test_witness_BuserrIsStickyAndSetByBadAccesses :
    Misaligned 0x0000000D ∧ base.Reserved 0x4000004C ∧ ReadOnly 0x0000001C ∧ ReadOnly 0x80000000 ∧
    ¬Misaligned 0x40000048 ∧ ¬base.Reserved 0x40000048 ∧ ¬ReadOnly 0x40000048 ∧ ¬ReadOnly 0x00000018 := by
  unfold Misaligned State.Reserved ReadOnly
  decide +kernel

/-- A state with a chunk, no frame yet and a command in flight meets the whole invariant. -/
theorem test_witness_StepKeepsTheInvariant : ({ holding message 0xABD1D84E with busy := true, pend := 0x5, lastOp := 0x5 } : State).Inv where
  memory := {
    ibuf_wf := rfl
    chdata_wf := by decide +kernel
    obuf_wf := rfl
    ibuf_backed := by intro c h; cases h
    chdata_backed := by decide +kernel
    obuf_backed := by intro c h; cases h }
  noChunk := by intro h; cases h
  chunk := fun _ => by decide +kernel
  obufFits := by unfold State.ObufFits; decide +kernel
  visible := ⟨by decide +kernel, fun i h => absurd h (Nat.not_lt_zero i)⟩
  codes := by unfold State.CodesOk; decide
  inFlight := fun _ => ⟨rfl, by decide +kernel⟩

theorem test_witness_StepKeepsTheChunkInvariant :
    (holding message 0xABD1D84E).ChunkOk ∧ (holding message 0xABD1D84E).chValid = true ∧
    (nextOf (step (holding message 0xABD1D84E))).isSome = true := ⟨holding_chunkOk, rfl, by decide +kernel⟩

/-- A chunk that keeps its invariant and an OBUF that holds the frame of section 1.1. -/
theorem test_witness_ObufAlwaysHoldsAnAcceptedFrame :
    ∃ s t : State, s.ChunkOk ∧ s.ObufHoldsFrame ∧ s.obufLen ≠ 0 ∧ step s = .next t := by
  obtain ⟨t, h, _⟩ := next_of_any
    (o := step { holding message 0xABD1D84E with obufLen := 12, obuf := Memory.writeBytes [] 0 frameIend }) (p := fun _ => true)
    (by decide +kernel)
  exact ⟨_, t, fun _ => by decide +kernel, .inr ⟨0x49454E44, 0, [], 0xAE426082, by decide +kernel⟩, by decide, h⟩

theorem test_witness_HostCannotTouchACommandInFlight :
    ∃ t, sBlocked.busy = true ∧ sBlocked.NextIsHost ⟨true, 0x00000014, 0x52755374⟩ ∧ step sBlocked = .next t := by
  obtain ⟨t, h, _⟩ := next_of_any (o := step sBlocked) (p := fun _ => true) (by decide +kernel)
  exact ⟨t, rfl, ⟨_, rfl⟩, h⟩

/-- A host that reads `STATUS` and writes `TYPE_IN` between acceptance and completion of TYPE_FROM_BYTES. -/
theorem test_witness_LatencyDoesNotChangeResults :
    ∃ t u : State, (sSeq 0x00000001).busy = true ∧ Host.Core.run core 1 { sSeq 0x00000001 with sched := [.seq] } = .next t ∧
      Host.Core.run core 3 { sSeq 0x00000001 with sched := [Transaction.mk false 0x0C 0, Transaction.mk true 0x14 7].map .host ++ [.seq] } = .next u := by
  obtain ⟨t, h, _⟩ := next_of_any (o := Host.Core.run core 1 { sSeq 0x00000001 with sched := [.seq] }) (p := fun _ => true) (by decide +kernel)
  obtain ⟨u, h', _⟩ := next_of_any (p := fun _ => true)
    (o := Host.Core.run core 3 { sSeq 0x00000001 with sched := [Transaction.mk false 0x0C 0, Transaction.mk true 0x14 7].map .host ++ [.seq] })
    (by decide +kernel)
  exact ⟨t, u, rfl, h, h'⟩

theorem test_witness_AcceptedCommandCompletesUnlessReset : sBlocked.busy = true ∧ .rst ∉ sBlocked.sched := by decide +kernel

end Sys2Proof.Tests
end

section
/-! SUPPORT. The step from its kind to its effect and back: what each kind of move runs, and one named effect per thing that a bus
transaction, a command or a step can do, so that a whole-machine rule is a case analysis on these names. -/

namespace Sys2Proof.Machine

open Sys2Proof

/-! ### From the kind of move to what the step runs -/

theorem step_of_host {s : State} {tr : Transaction} (h : s.NextIsHost tr) : step s = exec (decodeBus tr) s.dropMove :=
  step_of_row ⟨tr, h, rfl⟩

theorem step_of_reset {s : State} (h : s.NextIsReset) : step s = .next s.dropMove.doReset := by
  obtain ⟨l, hl⟩ := h
  simp [step, State.fetch, hl]

theorem step_of_complete {s : State} (h : s.NextIsComplete) : step s = exec (decodeCmd s.pend) s.dropMove :=
  step_of_completes ⟨h, rfl⟩

theorem not_nextIsReset_of_nextIsSeq {s : State} (h : s.NextIsSeq) : ¬s.NextIsReset := by
  rintro ⟨l, hl⟩
  rcases h with h | ⟨l', h⟩ <;> rw [hl] at h <;> cases h

theorem not_nextIsRow_of_nextIsSeq {s : State} {i : Instr} (h : s.NextIsSeq) : ¬s.NextIsRow i := by
  rintro ⟨tr, ⟨l, hl⟩, -⟩
  rcases h with h | ⟨l', h⟩ <;> rw [hl] at h <;> cases h

/-! ### From a write row back to the transaction -/

/-- A read decodes to a read row. -/
theorem encode_decodeRead (a : Word) : ∃ b, encode (decodeRead a) = .bus ⟨false, b, 0⟩ := by
  rcases decodeRead_cases a with
    ⟨_, e⟩ | ⟨_, e⟩ | ⟨_, e⟩ | ⟨_, ⟨r, _, e⟩ | ⟨_, _, e⟩ | ⟨_, e⟩ | ⟨_, e⟩ | ⟨_, e⟩⟩ <;> rw [e]
  case inr.inr.inr.inl => cases r <;> exact ⟨_, rfl⟩
  all_goals exact ⟨_, rfl⟩

/-- Only a write decodes to a write row. -/
theorem write_of_encode {tr : Transaction} {i : Instr} {b w : Word} (h : decodeBus tr = i) (hi : encode i = .bus ⟨true, b, w⟩) :
    tr.we = true ∧ decodeWrite tr.addr tr.data = i := by
  unfold decodeBus at h
  split at h
  · next hwe => exact ⟨hwe, h⟩
  · obtain ⟨b', hb'⟩ := encode_decodeRead tr.addr
    rw [h, hi] at hb'
    cases hb'

/-! ### What the register rows do -/

/-- A read row answers `REGVAL` (20_memory R64). -/
theorem exec_readRow (r : Reg) (s : State) : exec r.readRow s = .next (s.reply (s.regVal r)) := by
  cases r <;> rfl

theorem exec_wrCtrl (w : Word) (s : State) : exec (.wrCtrl w) s = .next { s with ctrlIe := w.getLsbD 0 } := rfl
theorem exec_wrStatus (w : Word) (s : State) : exec (.wrStatus w) s = .next (s.clearStatus w) := rfl
theorem exec_wrCmd (w : Word) (s : State) : exec (.wrCmd w) s = .next (s.unlessBusy (s.accept w)) := rfl
theorem exec_wrTypeIn (w : Word) (s : State) : exec (.wrTypeIn w) s = .next (s.unlessBusy { s with typeIn := w }) := rfl
theorem exec_wrIbufLen (w : Word) (s : State) : exec (.wrIbufLen w) s = .next (s.unlessBusy { s with ibufLen := w }) := rfl

/-- A step whose move is a `CMD` write while the block is idle accepts the word (10_state R47). -/
theorem step_of_acceptance {s : State} {w : Word} (hb : s.busy = false) (h : s.NextIsRow (.wrCmd w)) :
    step s = .next (s.dropMove.accept w) := by
  rw [step_of_row h, exec_wrCmd, State.unlessBusy_of_idle (State.dropMove_busy s ▸ hb)]

/-! ### The effects -/

/-- What a bus transaction of the row `i` can do to `s`. -/
inductive BusEffect (s : State) : Instr → State → Prop
  | reply {i} (v : Word) : BusEffect s i (s.reply v)
  | badRead {i} : BusEffect s i s.badRead
  | flagBuserr {i} : BusEffect s i s.flagBuserr
  | flagWrbusy {i} (hb : s.busy = true) : BusEffect s i s.flagWrbusy
  | setCtrl (w : Word) : BusEffect s (.wrCtrl w) { s with ctrlIe := w.getLsbD 0 }
  | clearStatus (w : Word) : BusEffect s (.wrStatus w) (s.clearStatus w)
  | accept (w : Word) (hb : s.busy = false) : BusEffect s (.wrCmd w) (s.accept w)
  | setTypeIn (w : Word) (hb : s.busy = false) : BusEffect s (.wrTypeIn w) { s with typeIn := w }
  | setIbufLen (w : Word) (hb : s.busy = false) : BusEffect s (.wrIbufLen w) { s with ibufLen := w }
  | setIbuf (off : Offset) (w : Word) (hb : s.busy = false) (hlt : off.toNat < s.ibufMax) :
      BusEffect s (.wrIbuf off w) { s with ibuf := s.ibuf.writeBytes off.toNat (bytesBe32 w) }

theorem busEffect_of_exec {i : Instr} {s t : State} (hi : i.isCommand = false) (h : exec i s = .next t) : BusEffect s i t := by
  obtain ⟨t', ht, hc⟩ := exec_bus i s hi
  obtain rfl : t' = t := by simpa [ht] using h
  rcases hc with ⟨v, rfl⟩ | rfl | rfl | ⟨hb, rfl⟩ | ⟨w, rfl, rfl⟩ | ⟨w, rfl, rfl⟩ | ⟨hb, w, rfl, rfl⟩ | ⟨hb, w, rfl, rfl⟩ |
    ⟨hb, w, rfl, rfl⟩ | ⟨hb, off, w, rfl, hlt, rfl⟩
  · exact .reply v
  · exact .badRead
  · exact .flagBuserr
  · exact .flagWrbusy hb
  · exact .setCtrl w
  · exact .clearStatus w
  · exact .accept w hb
  · exact .setTypeIn w hb
  · exact .setIbufLen w hb
  · exact .setIbuf off w hb hlt

/-- What `deframe` has checked of a string it accepts, and what it answers (42_chunk_framer R163). -/
theorem deframe_eq_ok {b : List Byte} {ty len crc : Word} {d : List Byte} (h : deframe b = .ok ty len d crc) :
    12 ≤ b.length ∧ len.toNat = b.length - 12 ∧ crc32 (slice b 4 8 ++ d) = crc ∧
      ty = be32 (slice b 4 8) ∧ len = be32 (slice b 0 4) ∧ d = slice b 8 (b.length - 4) ∧
      crc = be32 (slice b (b.length - 4) b.length) := by
  rcases deframe_cases b with ⟨_, e⟩ | ⟨_, _, e⟩ | ⟨_, _, _, e⟩ | ⟨hn, hl, hcrc, e⟩ <;> rw [e] at h
  · cases h
  · cases h
  · cases h
  · cases h
    exact ⟨hn, hl, hcrc, rfl, rfl, rfl, rfl⟩

theorem slice_length {b : List Byte} {i j : Nat} (hj : j ≤ b.length) : (slice b i j).length = j - i := by
  simp only [slice, List.length_take, List.length_drop]
  omega

/-- A big-endian field of a string, taken apart again (00_scope R10). -/
theorem bytesBe32_be32_of_length {b : List Byte} (h : b.length = 4) : bytesBe32 (be32 b) = b := by
  match b, h with
  | [b0, b1, b2, b3], _ => exact bytesBe32_be32 b0 b1 b2 b3

/-- What the `Complete` step of the command `i` can do to `s`: fail, or commit its own writes. -/
inductive CommandEffect (s : State) : Instr → State → Prop
  | fail {i} (e : Err) (c : Cause) (he : e ≠ .ok) (hc : c ≠ .none ↔ e = .format) : CommandEffect s i (s.fail e c)
  | setTag {i} (v : Word) (hi : i = .typeFromBytes ∨ i = .typeFromText) :
      CommandEffect s i (State.retire { s with tag := v } .ok .none)
  | setChunk {i} (ty len : Word) (d : List Byte) (crc : Word) (hi : i = .chunkNew ∨ i = .chunkDecode)
      (hfit : len.toNat ≤ s.dataMax) (hd : d.length = len.toNat) (hcrc : crc = crc32 (bytesBe32 ty ++ d)) :
      CommandEffect s i ((s.setChunk ty len d crc).retire .ok .none)
  | encode (hv : s.chValid = true) : CommandEffect s .chunkEncode (State.retire { s with
      obuf := s.obuf.writeBytes 0 (frame s.chType (s.chdataBytes s.chLen.toNat) s.chCrc), obufLen := 12 + s.chLen } .ok .none)
  | acceptText : CommandEffect s .dataAsText (s.retire .ok .none)
  | discard : CommandEffect s .chunkDiscard
      (State.retire { s with chValid := false, chType := 0, chLen := 0, chCrc := 0 } .ok .none)
  | setCrc {i} (v : Word) (hi : i = .crcClear ∨ i = .crcAccum) : CommandEffect s i (State.retire { s with crcAcc := v } .ok .none)

/-- A successful CHUNK_DECODE stores a chunk that fits and whose CRC holds. -/
theorem CommandEffect.of_deframe {s : State} {ty len crc : Word} {d : List Byte} (hcap : s.ibufLen.toNat ≤ s.ibufMax)
    (h : deframe (s.ibufBytes s.ibufLen.toNat) = .ok ty len d crc) :
    CommandEffect s .chunkDecode ((s.setChunk ty len d crc).retire .ok .none) := by
  obtain ⟨hn, hlen, hcrc, hty, -, hd, -⟩ := deframe_eq_ok h
  rw [ibufBytes_length] at hn hlen hd
  have hfit : len.toNat ≤ s.dataMax := by simp only [State.ibufMax] at hcap; omega
  have hdlen : d.length = len.toNat := by
    rw [hd, slice_length (by simp), hlen]
    omega
  have htype : bytesBe32 ty = slice (s.ibufBytes s.ibufLen.toNat) 4 8 := by
    rw [hty]
    exact bytesBe32_be32_of_length (slice_length (by simp; omega))
  exact .setChunk ty len d crc (.inr rfl) hfit hdlen (by rw [htype, hcrc])

theorem deframe_eq_fail {b : List Byte} {e : Err} {c : Cause} (h : deframe b = .fail e c) :
    e ≠ .ok ∧ (c ≠ .none ↔ e = .format) := by
  rcases deframe_cases b with ⟨_, e⟩ | ⟨_, _, e⟩ | ⟨_, _, _, e⟩ | ⟨_, _, _, e⟩ <;> rw [e] at h <;> cases h <;> decide

theorem commandEffect_of_exec {i : Instr} {s t : State} (hi : i.isCommand = true) (h : exec i s = .next t) :
    CommandEffect s i t := by
  cases i <;> simp only [Instr.isCommand, Bool.false_eq_true] at hi
  all_goals cases h
  case typeFromBytes => exact .setTag _ (.inl rfl)
  case typeFromText =>
    rcases typeFromText_cases s with ⟨_, e⟩ | ⟨_, _, e⟩ | ⟨_, _, e⟩ <;> rw [e]
    · exact .fail _ _ (by decide) (by decide)
    · exact .fail _ _ (by decide) (by decide)
    · exact .setTag _ (.inr rfl)
  case chunkNew =>
    rcases chunkNew_cases s with ⟨_, e⟩ | ⟨hfit, e⟩ <;> rw [e]
    · exact .fail _ _ (by decide) (by decide)
    · exact .setChunk _ _ _ _ (.inl rfl) hfit (ibufBytes_length s _) rfl
  case chunkDecode =>
    rcases chunkDecode_cases s with ⟨_, e⟩ | ⟨_, err, c, hd, e⟩ | ⟨hcap, ty, len, d, crc, hd, e⟩ <;> rw [e]
    · exact .fail _ _ (by decide) (by decide)
    · exact .fail _ _ (deframe_eq_fail hd).1 (deframe_eq_fail hd).2
    · exact .of_deframe hcap hd
  case chunkEncode =>
    rcases chunkEncode_cases s with ⟨_, e⟩ | ⟨hv, e⟩ <;> rw [e]
    · exact .fail _ _ (by decide) (by decide)
    · exact .encode hv
  case dataAsText =>
    rcases dataAsText_cases s with ⟨_, e⟩ | ⟨_, _, e⟩ | ⟨_, _, e⟩ <;> rw [e]
    · exact .fail _ _ (by decide) (by decide)
    · exact .fail _ _ (by decide) (by decide)
    · exact .acceptText
  case chunkDiscard => exact .discard
  case crcClear => exact .setCrc _ (.inl rfl)
  case crcAccum =>
    rcases crcAccum_cases s with ⟨_, e⟩ | ⟨_, e⟩ <;> rw [e]
    · exact .fail _ _ (by decide) (by decide)
    · exact .setCrc _ (.inr rfl)
  case illegalCmd w => exact .fail _ _ (by decide) (by decide)

/-- What a step can do: a transaction's effect, reset, the effect of the command in flight, or only to take the move. -/
inductive StepEffect (s : State) : State → Prop
  | host {t} {i : Instr} (h : s.NextIsRow i) (e : BusEffect s.dropMove i t) :
      StepEffect s t
  | reset (h : s.NextIsReset) : StepEffect s s.dropMove.doReset
  | complete {t} {i : Instr} (h : s.NextCompletes i) (e : CommandEffect s.dropMove i t) : StepEffect s t
  | wait (h : s.NextIsSeq) (hb : s.busy = false) : StepEffect s s.dropMove

theorem stepEffect_of_step {s t : State} (h : step s = .next t) : StepEffect s t := by
  rcases step_cases s with ⟨tr, htr, e⟩ | ⟨hr, e⟩ | ⟨hc, e⟩ | ⟨hq, hb, e⟩ <;> rw [e] at h
  · exact .host ⟨tr, htr, rfl⟩ (busEffect_of_exec (decodeBus_isCommand tr) h)
  · cases h
    exact .reset hr
  · exact .complete ⟨hc, rfl⟩ (commandEffect_of_exec (decodeCmd_isCommand s.pend) h)
  · cases h
    exact .wait hq hb

/-! ### What an effect leaves unchanged -/

/-- `t` has the result registers, the buffers of the block and the build of `s`: everything but the bus flags, the staging state and the
command in flight. -/
structure State.KeepsResults (s t : State) : Prop where
  tag       : t.tag = s.tag
  chValid   : t.chValid = s.chValid
  chType    : t.chType = s.chType
  chLen     : t.chLen = s.chLen
  chCrc     : t.chCrc = s.chCrc
  chdata    : t.chdata = s.chdata
  obufLen   : t.obufLen = s.obufLen
  obuf      : t.obuf = s.obuf
  crcAcc    : t.crcAcc = s.crcAcc
  err       : t.err = s.err
  cause     : t.cause = s.cause
  dataWords : t.dataWords = s.dataWords
  draw      : t.draw = s.draw

/-- `t` has the host's own state, the bus flags and the build of `s`. -/
structure State.KeepsHostState (s t : State) : Prop where
  ctrlIe    : t.ctrlIe = s.ctrlIe
  buserr    : t.buserr = s.buserr
  wrbusy    : t.wrbusy = s.wrbusy
  lastOp    : t.lastOp = s.lastOp
  typeIn    : t.typeIn = s.typeIn
  ibufLen   : t.ibufLen = s.ibufLen
  ibuf      : t.ibuf = s.ibuf
  dataWords : t.dataWords = s.dataWords
  draw      : t.draw = s.draw

/-- No transaction writes a result (10_state R35, R40, R43, R45). -/
theorem BusEffect.keepsResults {s t : State} {i : Instr} (e : BusEffect s i t) : s.KeepsResults t := by
  cases e <;> constructor <;> rfl

/-- No command writes the host's own state. -/
theorem CommandEffect.keepsHostState {s t : State} {i : Instr} (e : CommandEffect s i t) : s.KeepsHostState t := by
  cases e <;> constructor <;> rfl

/-- Nor does the sequencer's turn, whether a command is in flight or not. -/
theorem keepsHostState_of_nextIsSeq {s t : State} (hq : s.NextIsSeq) (h : step s = .next t) : s.KeepsHostState t := by
  cases stepEffect_of_step h with
  | host hrow => exact absurd hrow (not_nextIsRow_of_nextIsSeq hq)
  | reset hr => exact absurd hr (not_nextIsReset_of_nextIsSeq hq)
  | complete _ e => exact { e.keepsHostState with }
  | wait => constructor <;> rfl

/-- Every `Complete` step clears `BUSY` and sets `DONE` (30_encoding R100). -/
theorem CommandEffect.retired {s t : State} {i : Instr} (e : CommandEffect s i t) : t.busy = false ∧ t.done = true := by
  cases e <;> exact ⟨rfl, rfl⟩

end Sys2Proof.Machine
end

section
/-! PROOFS. The invariants that every step keeps. -/

namespace Sys2Proof.Machine

open Sys2Proof

/-! ### The chunk invariant -/

@[simp] theorem State.retire_chdataBytes (s : State) (e : Err) (c : Cause) (n : Nat) :
    (s.retire e c).chdataBytes n = s.chdataBytes n := rfl

theorem State.KeepsResults.dataMax {s t : State} (k : s.KeepsResults t) : t.dataMax = s.dataMax := by
  rw [State.dataMax, k.dataWords, State.dataMax]

theorem State.KeepsResults.chdataByte {s t : State} (k : s.KeepsResults t) (i : Nat) : t.chdataByte i = s.chdataByte i := by
  rw [State.chdataByte, k.chdata, k.draw, State.chdataByte]

theorem State.KeepsResults.chdataBytes {s t : State} (k : s.KeepsResults t) (n : Nat) : t.chdataBytes n = s.chdataBytes n :=
  List.map_congr_left fun i _ => k.chdataByte i

theorem State.KeepsResults.chunkOk {s t : State} (k : s.KeepsResults t) (h : s.ChunkOk) : t.ChunkOk := by
  unfold State.ChunkOk
  rw [k.chValid, k.chLen, k.chCrc, k.chType, k.dataMax, k.chdataBytes]
  exact h

/-- The bytes of CHDATA up to the length of the data just stored are that data. -/
theorem chdataBytes_setChunk {s : State} {ty len : Word} {d : List Byte} {crc : Word} :
    (s.setChunk ty len d crc).chdataBytes d.length = d := by
  refine List.ext_getElem? fun i => ?_
  rw [chdataBytes_getElem?]
  split
  · next h =>
    have hbyte : (s.setChunk ty len d crc).chdataByte i = _ := chdataByte_writeBytes s d i
    rw [hbyte, List.getElem?_eq_getElem h, Option.getD_some]
  · next h => rw [List.getElem?_eq_none (by omega)]

/-- A command keeps the chunk invariant: a new chunk has the CRC it was stored with, and nothing else touches a valid chunk
(42_chunk_framer R172). -/
theorem CommandEffect.chunkOk {s t : State} {i : Instr} (e : CommandEffect s i t) (h : s.ChunkOk) : t.ChunkOk := by
  cases e with
  | setChunk ty len d crc hi hfit hd hcrc =>
    have hdata : (s.setChunk ty len d crc).chdataBytes len.toNat = d := hd ▸ chdataBytes_setChunk
    exact fun _ => ⟨hfit, by simpa [hdata] using hcrc⟩
  | discard => exact fun hv => by cases hv
  | fail | setTag | encode | acceptText | setCrc => exact h

/-- Settles O56: a step keeps the chunk and its bytes, or stores a chunk with the CRC of its own bytes, or leaves no chunk. -/
theorem stepKeepsTheChunkInvariant : Obligations.StepKeepsTheChunkInvariant := by
  intro s t h hstep
  cases stepEffect_of_step hstep with
  | host _ e => exact e.keepsResults.chunkOk h
  | reset => exact fun hv => by cases hv
  | complete _ e => exact e.chunkOk h
  | wait => exact h

/-! ### Buffer storage -/

/-- A string that fits leaves only backed indices. -/
theorem Memory.backed_writeBytes {m : Memory} {a n : Nat} {d : List Byte} (hm : ∀ c ∈ m, c.1 < n) (hd : a + d.length ≤ n) :
    ∀ c ∈ m.writeBytes a d, c.1 < n := by
  intro c hc
  rcases Memory.mem_writeBytes hc with ⟨_, hlt⟩ | hc
  · omega
  · exact hm c hc

/-- Every byte that a string covers has been written. -/
theorem Memory.isSome_read?_writeBytes {m : Memory} {d : List Byte} {i : Nat} (hi : i < d.length) :
    ((m.writeBytes 0 d).read? i).isSome = true := by
  simp [Memory.read?_writeBytes, hi]

@[simp] theorem frame_length (ty : Word) (d : List Byte) (crc : Word) : (frame ty d crc).length = d.length + 12 := by
  simp [frame]
  omega

/-- The frame of a chunk that fits CHDATA fits OBUF (20_memory R76). -/
theorem frame_fits {s : State} (h : s.chLen.toNat ≤ s.dataMax) :
    (frame s.chType (s.chdataBytes s.chLen.toNat) s.chCrc).length ≤ s.obufMax := by
  rw [frame_length, chdataBytes_length, State.obufMax]
  omega

/-- The capacities are multiples of 4, so an aligned offset below one has its whole word below it (00_scope R6). -/
theorem word_lt_ibufMax {s : State} {n : Nat} (h4 : n % 4 = 0) (h : n < s.ibufMax) : n + 4 ≤ s.ibufMax := by
  simp only [State.ibufMax, State.dataMax] at h ⊢
  omega

/-- A transaction in the IBUF window has an aligned offset: a misaligned address decodes to its misaligned row. -/
theorem aligned_of_wrIbuf {s : State} {off : Offset} {w : Word} (h : s.NextIsRow (.wrIbuf off w)) : off.toNat % 4 = 0 := by
  obtain ⟨tr, -, h⟩ := h
  obtain ⟨-, h⟩ := write_of_encode h rfl
  rcases decodeWrite_cases tr.addr tr.data with
    ⟨_, e⟩ | ⟨_, e⟩ | ⟨_, e⟩ | ⟨ha, ⟨r, _, e⟩ | ⟨_, _, e⟩ | ⟨_, e⟩ | ⟨_, e⟩ | ⟨_, e⟩⟩ <;> rw [e] at h
  case inr.inr.inr.inl => cases r <;> cases h
  all_goals cases h
  rw [offsetBits_toNat]
  omega

theorem BusEffect.memoryOk {s t : State} {i : Instr} (e : BusEffect s i t)
    (h4 : ∀ off w, i = .wrIbuf off w → off.toNat % 4 = 0) (h : s.MemoryOk) : t.MemoryOk := by
  cases e with
  | setIbuf off w _ hlt =>
    have hfits : off.toNat + (bytesBe32 w).length ≤ s.ibufMax := word_lt_ibufMax (h4 off w rfl) hlt
    exact { h with
      ibuf_wf := Memory.wf_writeBytes h.ibuf_wf _ _
      ibuf_backed := Memory.backed_writeBytes h.ibuf_backed hfits }
  | reply | badRead | flagBuserr | flagWrbusy | setCtrl | clearStatus | accept | setTypeIn | setIbufLen => exact { h with }

theorem CommandEffect.memoryOk {s t : State} {i : Instr} (e : CommandEffect s i t) (hc : s.ChunkOk) (h : s.MemoryOk) :
    t.MemoryOk := by
  cases e with
  | setChunk ty len d crc _ hfit hd =>
    have hfits : 0 + d.length ≤ s.dataMax := by omega
    exact { h with
      chdata_wf := Memory.wf_writeBytes h.chdata_wf _ _
      chdata_backed := Memory.backed_writeBytes h.chdata_backed hfits }
  | encode hv =>
    obtain ⟨hfit, -⟩ := hc hv
    exact { h with
      obuf_wf := Memory.wf_writeBytes h.obuf_wf _ _
      obuf_backed := Memory.backed_writeBytes h.obuf_backed (Nat.zero_add _ ▸ frame_fits hfit) }
  | fail | setTag | acceptText | discard | setCrc => exact { h with }

/-! ### The rest of the machine invariant -/

theorem State.KeepsResults.noChunkOk {s t : State} (k : s.KeepsResults t) (h : s.NoChunkOk) : t.NoChunkOk := by
  unfold State.NoChunkOk
  rw [k.chValid, k.chType, k.chLen, k.chCrc]
  exact h

theorem CommandEffect.noChunkOk {s t : State} {i : Instr} (e : CommandEffect s i t) (h : s.NoChunkOk) : t.NoChunkOk := by
  cases e with
  | setChunk => exact fun hv => by cases hv
  | discard => exact fun _ => ⟨rfl, rfl, rfl⟩
  | fail | setTag | encode | acceptText | setCrc => exact h

theorem StepEffect.noChunkOk {s t : State} (e : StepEffect s t) (h : s.NoChunkOk) : t.NoChunkOk := by
  cases e with
  | host _ e => exact e.keepsResults.noChunkOk h
  | reset => exact fun _ => ⟨rfl, rfl, rfl⟩
  | complete _ e => exact e.noChunkOk h
  | wait => exact h

theorem State.KeepsResults.obufFits {s t : State} (k : s.KeepsResults t) (h : s.ObufFits) : t.ObufFits := by
  rw [State.ObufFits, k.obufLen, State.obufMax, k.dataMax]
  exact h

/-- `OBUF_LEN` after CHUNK_ENCODE is at most the length of the frame, which it equals unless the 32-bit sum wraps. -/
theorem toNat_twelve_add_le (len : Word) : (12 + len : Word).toNat ≤ len.toNat + 12 := by
  rw [BitVec.toNat_add, Nat.add_comm]
  exact Nat.mod_le _ _

theorem CommandEffect.obufFits {s t : State} {i : Instr} (e : CommandEffect s i t) (hc : s.ChunkOk) (h : s.ObufFits) :
    t.ObufFits := by
  cases e with
  | encode hv =>
    obtain ⟨hfit, -⟩ := hc hv
    exact (toNat_twelve_add_le s.chLen).trans (Nat.add_le_add_right hfit 12)
  | fail | setTag | setChunk | acceptText | discard | setCrc => exact h

theorem State.KeepsResults.visibleWritten {s t : State} (k : s.KeepsResults t) (h : s.VisibleWritten) : t.VisibleWritten := by
  unfold State.VisibleWritten
  rw [k.chLen, k.chdata, k.obufLen, k.obuf]
  exact h

theorem CommandEffect.visibleWritten {s t : State} {i : Instr} (e : CommandEffect s i t) (h : s.VisibleWritten) :
    t.VisibleWritten := by
  obtain ⟨hchdata, hobuf⟩ := h
  cases e with
  | setChunk ty len d crc _ _ hd =>
    exact ⟨fun i hi => Memory.isSome_read?_writeBytes (by rw [hd]; exact hi), hobuf⟩
  | encode =>
    refine ⟨hchdata, fun i hi => Memory.isSome_read?_writeBytes ?_⟩
    simpa using Nat.lt_of_lt_of_le hi (toNat_twelve_add_le s.chLen)
  | discard => exact ⟨fun i hi => absurd hi (Nat.not_lt_zero i), hobuf⟩
  | fail | setTag | acceptText | setCrc => exact ⟨hchdata, hobuf⟩

theorem State.KeepsResults.codesOk {s t : State} (k : s.KeepsResults t) (h : s.CodesOk) : t.CodesOk := by
  rw [State.CodesOk, k.cause, k.err]
  exact h

/-- Whatever the state before, a `Complete` step leaves matching codes. -/
theorem CommandEffect.codesOk {s t : State} {i : Instr} (e : CommandEffect s i t) : t.CodesOk := by
  cases e with
  | fail e c _ hc => exact hc
  | setTag | setChunk | encode | acceptText | discard | setCrc => exact (by decide : Cause.none ≠ .none ↔ Err.ok = .format)

theorem BusEffect.inFlightOk {s t : State} {i : Instr} (e : BusEffect s i t) (h : s.InFlightOk) : t.InFlightOk := by
  cases e with
  | clearStatus w =>
    intro hb
    obtain ⟨hdone, hop⟩ := h hb
    exact ⟨by simp [State.clearStatus, hdone], hop⟩
  | accept => exact fun _ => ⟨rfl, rfl⟩
  | reply | badRead | flagBuserr | flagWrbusy | setCtrl | setTypeIn | setIbufLen | setIbuf => exact h

theorem BusEffect.inv {s t : State} {i : Instr} (e : BusEffect s i t)
    (h4 : ∀ off w, i = .wrIbuf off w → off.toNat % 4 = 0) (h : s.Inv) : t.Inv where
  memory   := e.memoryOk h4 h.memory
  noChunk  := e.keepsResults.noChunkOk h.noChunk
  chunk    := e.keepsResults.chunkOk h.chunk
  obufFits := e.keepsResults.obufFits h.obufFits
  visible  := e.keepsResults.visibleWritten h.visible
  codes    := e.keepsResults.codesOk h.codes
  inFlight := e.inFlightOk h.inFlight

theorem CommandEffect.inv {s t : State} {i : Instr} (e : CommandEffect s i t) (h : s.Inv) : t.Inv where
  memory   := e.memoryOk h.chunk h.memory
  noChunk  := e.noChunkOk h.noChunk
  chunk    := e.chunkOk h.chunk
  obufFits := e.obufFits h.chunk h.obufFits
  visible  := e.visibleWritten h.visible
  codes    := e.codesOk
  inFlight := fun hb => by rw [e.retired.1] at hb; cases hb

theorem State.dropMove_inv {s : State} (h : s.Inv) : s.dropMove.Inv :=
  { h with memory := { h.memory with } }

/-- Reset leaves nothing that the invariant could be broken by, whatever the state before. -/
theorem State.doReset_inv (s : State) : s.doReset.Inv where
  memory   := {
    ibuf_wf := rfl, chdata_wf := rfl, obuf_wf := rfl
    ibuf_backed := by simp, chdata_backed := by simp, obuf_backed := by simp }
  noChunk  := fun _ => ⟨rfl, rfl, rfl⟩
  chunk    := fun hv => by cases hv
  obufFits := Nat.zero_le _
  visible  := ⟨fun i hi => absurd hi (Nat.not_lt_zero i), fun i hi => absurd hi (Nat.not_lt_zero i)⟩
  codes    := (by decide : Cause.none ≠ .none ↔ Err.ok = .format)
  inFlight := fun hb => by cases hb

/-- Settles O55: every effect of a step keeps each part of the invariant; the chunk invariant bounds what CHUNK_ENCODE writes. -/
theorem stepKeepsTheInvariant : Obligations.StepKeepsTheInvariant := by
  intro s t h hstep
  have hdrop := State.dropMove_inv h
  cases stepEffect_of_step hstep with
  | host hrow e => exact e.inv (fun off w hi => aligned_of_wrIbuf (hi ▸ hrow)) hdrop
  | reset => exact s.dropMove.doReset_inv
  | complete _ e => exact e.inv hdrop
  | wait => exact hdrop

end Sys2Proof.Machine
end

section
/-! PROOFS. The register map and the accesses to the registers. -/

namespace Sys2Proof.Machine

open Sys2Proof

/-! ### The map -/

/-- The rows of a register stand at its offset of region 00 (10_state R22). -/
theorem decodeBus_register (r : Reg) (w : Word) :
    decodeBus ⟨false, addressOf 0 r.offset, w⟩ = r.readRow ∧ decodeBus ⟨true, addressOf 0 r.offset, w⟩ = r.writeRow w := by
  have ha : alignBits (addressOf 0#2 r.offset) = 0#2 := by cases r <;> rfl
  have hr : regAt r.offset = some r := (regAt_eq_some_iff _ r).mpr rfl
  simp [decodeBus, decodeRead, decodeWrite, ha, hr, regionBits_addressOf, offsetBits_addressOf]

theorem alignBits_of_aligned {a : Word} (h : ¬Misaligned a) : alignBits a = 0 :=
  (alignBits_eq_iff a 0 (by decide)).mpr (not_not.mp h)

theorem offsetBits_eq_ofNat (a : Word) : offsetBits a = BitVec.ofNat 30 (offsetOf a) := by
  rw [← BitVec.toNat_inj, offsetBits_toNat, BitVec.toNat_ofNat, offsetOf, Nat.mod_mod]

/-- An aligned address of region 00 past the last register is reserved. -/
theorem regAt_of_reserved {a : Word} (ha : ¬Misaligned a) (h : 0x40 ≤ offsetOf a) : regAt (offsetBits a) = none := by
  refine (regAt_eq_none _ ?_).mpr (by rwa [offsetBits_toNat])
  rw [offsetBits_toNat]
  simp only [Misaligned] at ha
  omega

/-- Settles O5: the misaligned rows by the low two bits, the aligned ones by the region, the registers by the map. -/
theorem registerMapDecodes : Obligations.RegisterMapDecodes := by
  refine ⟨fun a w ha => ?_, fun a w => ?_, fun w => ?_⟩
  · have h0 := alignBits_of_aligned ha
    rw [← offsetBits_eq_ofNat]
    refine ⟨fun hr ho => ?_, fun hr => ?_, fun hr => ?_, fun hr => ?_⟩
    · have hreg := regAt_of_reserved ha ho
      have hr0 := (regionBits_eq_iff a 0 (by decide)).mpr hr
      simp [decodeBus, decodeRead, decodeWrite, h0, hr0, hreg]
    · have hr1 := (regionBits_eq_iff a 1 (by decide)).mpr hr
      simp [decodeBus, decodeRead, decodeWrite, h0, hr1]
    · have hr2 := (regionBits_eq_iff a 2 (by decide)).mpr hr
      simp [decodeBus, decodeRead, decodeWrite, h0, hr2]
    · have hr3 := (regionBits_eq_iff a 3 (by decide)).mpr hr
      simp [decodeBus, decodeRead, decodeWrite, h0, hr3]
  · refine ⟨fun h => ?_, fun h => ?_, fun h => ?_⟩
    · have h1 := (alignBits_eq_iff a 1 (by decide)).mpr h
      simp [decodeBus, decodeRead, decodeWrite, h1]
    · have h2 := (alignBits_eq_iff a 2 (by decide)).mpr h
      simp [decodeBus, decodeRead, decodeWrite, h2]
    · have h3 := (alignBits_eq_iff a 3 (by decide)).mpr h
      simp [decodeBus, decodeRead, decodeWrite, h3]
  · have hrow := fun r => decodeBus_register r w
    exact ⟨(hrow .id).1, (hrow .id).2, (hrow .param).1, (hrow .param).2, (hrow .ctrl).1, (hrow .ctrl).2,
      (hrow .status).1, (hrow .status).2, (hrow .cmd).1, (hrow .cmd).2, (hrow .typeIn).1, (hrow .typeIn).2,
      (hrow .ibufLen).1, (hrow .ibufLen).2, (hrow .tag).1, (hrow .tag).2, (hrow .tagFlags).1, (hrow .tagFlags).2,
      (hrow .chType).1, (hrow .chType).2, (hrow .chFlags).1, (hrow .chFlags).2, (hrow .chLen).1, (hrow .chLen).2,
      (hrow .chCrc).1, (hrow .chCrc).2, (hrow .obufLen).1, (hrow .obufLen).2, (hrow .crcAcc).1, (hrow .crcAcc).2,
      (hrow .crcValue).1, (hrow .crcValue).2⟩

/-! ### Reads -/

/-- The `CTRL` word is the number of its one field (10_state R25). -/
theorem ctrlWord_eq_ite (s : State) : s.ctrlWord = if s.ctrlIe then 0x00000001 else 0x00000000 := by
  cases h : s.ctrlIe <;> simp [State.ctrlWord, h]

theorem getLsbD_ctrlWord (s : State) (i : Nat) : s.ctrlWord.getLsbD i = (decide (i = 0) && s.ctrlIe) := by
  cases h : s.ctrlIe
  · simp [State.ctrlWord, h]
  · simp [State.ctrlWord, h, BitVec.getLsbD_one]

/-- Settles O11: every read row answers `REGVAL` of its register. -/
theorem registerReadAnswersItsValue : Obligations.RegisterReadAnswersItsValue := by
  refine ⟨fun w => ?_, fun s => ?_⟩
  · exact ⟨(decodeBus_register .id w).1, (decodeBus_register .tag w).1, (decodeBus_register .chType w).1,
      (decodeBus_register .crcAcc w).1, (decodeBus_register .crcValue w).1⟩
  · have hread := fun r => exec_readRow r s
    refine ⟨hread .id, hread .param, ?_, hread .cmd, hread .typeIn, hread .ibufLen, hread .tag, hread .tagFlags, hread .chType,
      hread .chFlags, hread .chLen, hread .chCrc, hread .obufLen, hread .crcAcc, hread .crcValue⟩
    rw [← ctrlWord_eq_ite]
    exact hread .ctrl

/-- Every field of the `STATUS` word stands at its bits, and the reserved bits are 0 (10_state R26). -/
theorem statusWord_fields (s : State) :
    s.statusWord.getLsbD 0 = s.busy ∧ s.statusWord.getLsbD 1 = s.done ∧ s.statusWord.getLsbD 2 = s.chValid ∧
    s.statusWord.getLsbD 3 = false ∧ s.statusWord.extractLsb' 4 4 = s.err.code ∧ s.statusWord.extractLsb' 8 4 = s.cause.code ∧
    s.statusWord.extractLsb' 12 4 = 0#4 ∧ s.statusWord.getLsbD 16 = s.buserr ∧ s.statusWord.getLsbD 17 = s.wrbusy ∧
    s.statusWord.extractLsb' 18 6 = 0#6 ∧ s.statusWord.extractLsb' 24 8 = s.lastOp := by
  have hbit (i : Nat) := congrArg (BitVec.getLsbD · i) (State.statusWord.eq_1 s)
  simp only [BitVec.getLsbD_append, BitVec.getLsbD_ofBool] at hbit
  refine ⟨hbit 0, hbit 1, hbit 2, hbit 3, ?_, ?_, ?_, hbit 16, hbit 17, ?_, ?_⟩ <;>
    refine BitVec.eq_of_getLsbD_eq fun i hi => ?_ <;>
    rw [BitVec.getLsbD_extractLsb', hbit] <;> interval_cases i <;> rfl

/-- Settles O12: the word is put together from its fields, so each is read back at its bits. -/
theorem statusReadShowsItsFields : Obligations.StatusReadShowsItsFields := by
  intro s
  obtain ⟨hbusy, hdone, hvalid, h3, herr, hcause, h12, hbuserr, hwrbusy, h18, hop⟩ := statusWord_fields s
  refine ⟨s.statusWord, exec_readRow .status s, hbusy, hdone, hvalid, h3, ?_, ?_, h12, hbuserr, hwrbusy, h18, hop⟩
  · rw [herr]
    cases s.err <;> rfl
  · rw [hcause]
    cases s.cause <;> rfl

/-! ### Writes -/

/-- Settles O16: the write stores bit 0, and the word read back has IE at bit 0 alone. -/
theorem ctrlWriteStoresIe : Obligations.CtrlWriteStoresIe := by
  refine ⟨fun w => (decodeBus_register .ctrl w).symm, rfl, fun w s => ⟨exec_wrCtrl w s, rfl, ?_⟩⟩
  exact ⟨_, exec_readRow .ctrl _, getLsbD_ctrlWord _ 0, fun i hi => (getLsbD_ctrlWord _ i).trans (by simp [hi.ne'])⟩

/-- Settles O17: a bit is kept where the written bit is 0. -/
theorem statusWriteClearsByOnes : Obligations.StatusWriteClearsByOnes := by
  intro w s
  have hclear (b k : Bool) : (b && !k) = if k then false else b := by cases k <;> simp
  rw [exec_wrStatus, State.clearStatus, hclear, hclear, hclear]

/-- Settles O18: the block accepts the word, or the write is blocked. -/
theorem cmdWriteAcceptsOrIsBlocked : Obligations.CmdWriteAcceptsOrIsBlocked := by
  refine ⟨fun w => (decodeBus_register .cmd w).symm, fun w s => ⟨exec_readRow .cmd s, fun hb => ?_, fun hb => ?_⟩⟩
  · rw [exec_wrCmd, State.unlessBusy_of_idle hb, State.accept]
  · rw [exec_wrCmd, State.unlessBusy_of_busy hb, State.flagWrbusy]

/-- Settles O19: the block stores the word, or the write is blocked. -/
theorem stagingRegisterWriteStoresOrIsBlocked : Obligations.StagingRegisterWriteStoresOrIsBlocked := by
  refine fun w s => ⟨fun hb => ?_, fun hb => ?_⟩
  · rw [exec_wrTypeIn, exec_wrIbufLen, State.unlessBusy_of_idle hb, State.unlessBusy_of_idle hb]
    exact ⟨rfl, rfl⟩
  · rw [exec_wrTypeIn, exec_wrIbufLen, State.unlessBusy_of_busy hb, State.unlessBusy_of_busy hb]
    exact ⟨rfl, rfl⟩

end Sys2Proof.Machine
end

section
/-! PROOFS. Who may change what: the flags of a command in flight, the interrupt, the chunk register set, and the writers of each register
and buffer. -/

namespace Sys2Proof.Machine

open Sys2Proof

/-! ### BUSY, DONE, LAST_OP and the interrupt -/

/-- A transaction changes `BUSY` and `LAST_OP` only by acceptance. -/
theorem BusEffect.busy_lastOp {s t : State} {i : Instr} (e : BusEffect s i t) :
    (t.busy = s.busy ∧ t.lastOp = s.lastOp) ∨ (s.busy = false ∧ ∃ w, i = .wrCmd w) := by
  cases e with
  | accept w hb => exact .inr ⟨hb, w, rfl⟩
  | reply | badRead | flagBuserr | flagWrbusy | setCtrl | clearStatus | setTypeIn | setIbufLen | setIbuf =>
    exact .inl ⟨rfl, rfl⟩

/-- A transaction changes `DONE` only by acceptance or by a write of 1 to its bit of `STATUS`. -/
theorem BusEffect.done {s t : State} {i : Instr} (e : BusEffect s i t) :
    t.done = s.done ∨ (s.busy = false ∧ ∃ w, i = .wrCmd w) ∨ ∃ w, w.getLsbD 1 = true ∧ i = .wrStatus w := by
  cases e with
  | accept w hb => exact .inr (.inl ⟨hb, w, rfl⟩)
  | clearStatus w =>
    cases hw : w.getLsbD 1 with
    | true => exact .inr (.inr ⟨w, hw, rfl⟩)
    | false => exact .inl (by simp only [State.clearStatus, hw, Bool.not_false, Bool.and_true])
  | reply | badRead | flagBuserr | flagWrbusy | setCtrl | setTypeIn | setIbufLen | setIbuf => exact .inl rfl

/-- Settles O45: a completion sets `DONE` and keeps IE; the other clauses clear `DONE` or write IE. -/
theorem irqFollowsDoneAndEnable : Obligations.IrqFollowsDoneAndEnable := by
  refine ⟨fun _ => rfl, fun i s t hi h => ?_, fun w s t h => ?_, fun w s t hw h => ?_, fun w s t hb h => ?_, fun s t hr h => ?_⟩
  · have e := commandEffect_of_exec hi h
    simp [State.irq, e.retired.2, e.keepsHostState.ctrlIe]
  · cases h
    rfl
  · cases h
    simp [State.irq, State.clearStatus, hw]
  · rw [exec_wrCmd, State.unlessBusy_of_idle hb] at h
    cases h
    simp [State.irq]
  · rw [step_of_reset hr] at h
    cases h
    rfl

/-- Settles O46: acceptance is the one effect that sets `BUSY`; a completion and reset clear it. -/
theorem busyRunsFromAcceptanceToCompletion : Obligations.BusyRunsFromAcceptanceToCompletion := by
  intro s t h
  refine ⟨fun hb => ⟨fun ht => ?_, fun ⟨w, hrow⟩ => ?_⟩, fun hb => ⟨fun ht => ?_, fun hkind => ?_⟩⟩
  · cases stepEffect_of_step h with
    | host hrow e =>
      rcases e.busy_lastOp with ⟨hsame, -⟩ | ⟨-, w, rfl⟩
      · rw [hsame, State.dropMove_busy, hb] at ht
        cases ht
      · exact ⟨w, hrow⟩
    | reset => cases ht
    | complete _ e => rw [e.retired.1] at ht; cases ht
    | wait => rw [State.dropMove_busy, hb] at ht; cases ht
  · rw [step_of_acceptance hb hrow] at h
    cases h
    rfl
  · cases stepEffect_of_step h with
    | host hrow e =>
      rcases e.busy_lastOp with ⟨hsame, -⟩ | ⟨hidle, -⟩
      · rw [hsame, State.dropMove_busy, hb] at ht
        cases ht
      · rw [State.dropMove_busy, hb] at hidle
        cases hidle
    | reset hr => exact .inr hr
    | complete hc => exact .inl hc.1.2
    | wait hq => exact .inl hq
  · rcases hkind with hq | hr
    · rw [step_of_complete ⟨hb, hq⟩] at h
      exact (commandEffect_of_exec (decodeCmd_isCommand _) h).retired.1
    · rw [step_of_reset hr] at h
      cases h
      rfl

/-- Settles O47: the forward clauses run the step of their kind; the last is the case analysis of the effects on `DONE`. -/
theorem doneIsSetByCompletionOnly : Obligations.DoneIsSetByCompletionOnly := by
  intro s t h
  refine ⟨fun hc => ?_, fun w hb hrow => ?_, fun w hrow => ?_, fun hr => ?_, fun hne => ?_⟩
  · rw [step_of_complete hc] at h
    exact (commandEffect_of_exec (decodeCmd_isCommand _) h).retired.2
  · rw [step_of_acceptance hb hrow] at h
    cases h
    rfl
  · rw [step_of_row hrow, exec_wrStatus] at h
    cases h
    rfl
  · rw [step_of_reset hr] at h
    cases h
    rfl
  · cases stepEffect_of_step h with
    | host hrow e =>
      rcases e.done with hsame | ⟨hb, w, rfl⟩ | ⟨w, hw, rfl⟩
      · exact absurd hsame hne
      · exact .inr (.inl ⟨hb, w, hrow⟩)
      · exact .inr (.inr (.inl ⟨w, hw, hrow⟩))
    | reset hr => exact .inr (.inr (.inr hr))
    | complete hc => exact .inl hc.1
    | wait => exact absurd rfl hne

/-- Settles O51: `LAST_OP` is written by acceptance and reset alone. -/
theorem lastOpRecordsAcceptedWords : Obligations.LastOpRecordsAcceptedWords := by
  intro s t h
  refine ⟨fun w hb hrow => ?_, fun hr => ?_, fun hne => ?_⟩
  · rw [step_of_acceptance hb hrow] at h
    cases h
    rfl
  · rw [step_of_reset hr] at h
    cases h
    rfl
  · cases stepEffect_of_step h with
    | host hrow e =>
      rcases e.busy_lastOp with ⟨-, hsame⟩ | ⟨hb, w, rfl⟩
      · exact absurd hsame hne
      · exact .inr ⟨hb, w, hrow⟩
    | reset hr => exact .inl hr
    | complete _ e => exact absurd e.keepsHostState.lastOp hne
    | wait => exact absurd rfl hne

/-! ### The writers of the result registers and of the staging state -/

/-- The commands that write `TAG`, OBUF and `CRC_ACC`. -/
theorem CommandEffect.resultWriters {s t : State} {i : Instr} (e : CommandEffect s i t) :
    (t.tag = s.tag ∨ i = .typeFromBytes ∨ i = .typeFromText) ∧
    ((t.obufLen = s.obufLen ∧ t.obuf = s.obuf) ∨ i = .chunkEncode) ∧
    (t.crcAcc = s.crcAcc ∨ i = .crcClear ∨ i = .crcAccum) := by
  cases e with
  | setTag v hi => exact ⟨.inr hi, .inl ⟨rfl, rfl⟩, .inl rfl⟩
  | encode => exact ⟨.inl rfl, .inr rfl, .inl rfl⟩
  | setCrc v hi => exact ⟨.inl rfl, .inl ⟨rfl, rfl⟩, .inr hi⟩
  | fail | setChunk | acceptText | discard => exact ⟨.inl rfl, .inl ⟨rfl, rfl⟩, .inl rfl⟩

/-- The transactions that write IE, `TYPE_IN`, `IBUF_LEN` and IBUF. -/
theorem BusEffect.stagingWriters {s t : State} {i : Instr} (e : BusEffect s i t) :
    (t.ctrlIe = s.ctrlIe ∨ ∃ w, i = .wrCtrl w) ∧
    (t.typeIn = s.typeIn ∨ (s.busy = false ∧ ∃ w, i = .wrTypeIn w)) ∧
    (t.ibufLen = s.ibufLen ∨ (s.busy = false ∧ ∃ w, i = .wrIbufLen w)) ∧
    (t.ibuf = s.ibuf ∨ (s.busy = false ∧ ∃ off w, i = .wrIbuf off w)) := by
  cases e with
  | setCtrl w => exact ⟨.inr ⟨w, rfl⟩, .inl rfl, .inl rfl, .inl rfl⟩
  | setTypeIn w hb => exact ⟨.inl rfl, .inr ⟨hb, w, rfl⟩, .inl rfl, .inl rfl⟩
  | setIbufLen w hb => exact ⟨.inl rfl, .inl rfl, .inr ⟨hb, w, rfl⟩, .inl rfl⟩
  | setIbuf off w hb => exact ⟨.inl rfl, .inl rfl, .inl rfl, .inr ⟨hb, off, w, rfl⟩⟩
  | reply | badRead | flagBuserr | flagWrbusy | clearStatus | accept => exact ⟨.inl rfl, .inl rfl, .inl rfl, .inl rfl⟩

/-- Settles O52: no transaction writes a result, and each command writes only its own. -/
theorem resultRegistersHaveTheirOwnWriters : Obligations.ResultRegistersHaveTheirOwnWriters := by
  intro s t h
  cases stepEffect_of_step h with
  | host _ e =>
    have k := e.keepsResults
    exact ⟨fun hne => absurd k.tag hne, fun hne => absurd k.obuf (hne.resolve_left (not_not.mpr k.obufLen)),
      fun hne => absurd k.crcAcc hne⟩
  | reset hr => exact ⟨fun _ => .inr (.inr hr), fun _ => .inr hr, fun _ => .inr (.inr hr)⟩
  | complete hc e =>
    obtain ⟨htag, hobuf, hcrc⟩ := e.resultWriters
    refine ⟨fun hne => ?_, fun hne => ?_, fun hne => ?_⟩
    · rcases htag.resolve_left hne with rfl | rfl
      · exact .inl hc
      · exact .inr (.inl hc)
    · rcases hobuf with ⟨hlen, hbytes⟩ | rfl
      · exact absurd hbytes (hne.resolve_left (not_not.mpr hlen))
      · exact .inl hc
    · rcases hcrc.resolve_left hne with rfl | rfl
      · exact .inl hc
      · exact .inr (.inl hc)
  | wait => exact ⟨fun hne => absurd rfl hne, fun hne => absurd rfl (hne.resolve_left (not_not.mpr rfl)), fun hne => absurd rfl hne⟩

/-- Settles O53: no command writes the staging state, and each transaction writes only its own address. -/
theorem stagingStateIsWrittenByTheHostAlone : Obligations.StagingStateIsWrittenByTheHostAlone := by
  intro s t h
  cases stepEffect_of_step h with
  | host hrow e =>
    obtain ⟨hie, htype, hlen, hibuf⟩ := e.stagingWriters
    refine ⟨fun hne => .inr ?_, fun hne => .inr ?_, fun hne => .inr ?_, fun hne => .inr ?_⟩
    · obtain ⟨w, rfl⟩ := hie.resolve_left hne
      exact ⟨w, hrow⟩
    · obtain ⟨hb, w, rfl⟩ := htype.resolve_left hne
      exact ⟨hb, w, hrow⟩
    · obtain ⟨hb, w, rfl⟩ := hlen.resolve_left hne
      exact ⟨hb, w, hrow⟩
    · obtain ⟨hb, off, w, rfl⟩ := hibuf.resolve_left hne
      exact ⟨hb, off, w, hrow⟩
  | reset hr => exact ⟨fun _ => .inl hr, fun _ => .inl hr, fun _ => .inl hr, fun _ => .inl hr⟩
  | complete _ e =>
    have k := e.keepsHostState
    exact ⟨fun hne => absurd k.ctrlIe hne, fun hne => absurd k.typeIn hne, fun hne => absurd k.ibufLen hne,
      fun hne => absurd k.ibuf hne⟩
  | wait => exact ⟨fun hne => absurd rfl hne, fun hne => absurd rfl hne, fun hne => absurd rfl hne, fun hne => absurd rfl hne⟩

/-! ### The chunk register set -/

/-- The commands that write the chunk register set, and what a success leaves in it. -/
theorem CommandEffect.chunkWriters {s t : State} {i : Instr} (e : CommandEffect s i t) :
    (t.chValid = s.chValid ∧ t.chType = s.chType ∧ t.chLen = s.chLen ∧ t.chCrc = s.chCrc ∧ t.chdata = s.chdata) ∨
    ((i = .chunkNew ∨ i = .chunkDecode) ∧ t.err = .ok ∧ t.chValid = true) ∨
    (i = .chunkDiscard ∧ t.chValid = false ∧ t.chType = 0 ∧ t.chLen = 0 ∧ t.chCrc = 0 ∧ t.chdata = s.chdata) := by
  cases e with
  | setChunk _ _ _ _ hi => exact .inr (.inl ⟨hi, rfl, rfl⟩)
  | discard => exact .inr (.inr ⟨rfl, rfl, rfl, rfl, rfl, rfl⟩)
  | fail | setTag | encode | acceptText | setCrc => exact .inl ⟨rfl, rfl, rfl, rfl, rfl⟩

/-- A step that changes the chunk register set completes a chunk command or resets (10_state R35). -/
theorem StepEffect.chunkWriters {s t : State} (e : StepEffect s t) :
    (t.chValid = s.chValid ∧ t.chType = s.chType ∧ t.chLen = s.chLen ∧ t.chCrc = s.chCrc ∧ t.chdata = s.chdata) ∨
    ((s.NextCompletes .chunkNew ∨ s.NextCompletes .chunkDecode) ∧ t.err = .ok ∧ t.chValid = true) ∨
    (s.NextCompletes .chunkDiscard ∧ t.chValid = false ∧ t.chType = 0 ∧ t.chLen = 0 ∧ t.chCrc = 0 ∧ t.chdata = s.chdata) ∨
    (s.NextIsReset ∧ t.chValid = false ∧ t.chType = 0 ∧ t.chLen = 0 ∧ t.chCrc = 0) := by
  cases e with
  | host _ e =>
    have k := e.keepsResults
    exact .inl ⟨k.chValid, k.chType, k.chLen, k.chCrc, k.chdata⟩
  | reset hr => exact .inr (.inr (.inr ⟨hr, rfl, rfl, rfl, rfl⟩))
  | complete hc e =>
    rcases e.chunkWriters with hsame | ⟨rfl | rfl, hok⟩ | ⟨rfl, hempty⟩
    · exact .inl hsame
    · exact .inr (.inl ⟨.inl hc, hok⟩)
    · exact .inr (.inl ⟨.inr hc, hok⟩)
    · exact .inr (.inr (.inl ⟨hc, hempty⟩))
  | wait => exact .inl ⟨rfl, rfl, rfl, rfl, rfl⟩

/-- `IBUF[a .. b)` out of `IBUF[0 .. n)` (20_memory R74). -/
theorem slice_ibufBytes {s : State} {n a b : Nat} (hb : b ≤ n) : slice (s.ibufBytes n) a b = s.ibufSlice a (b - a) := by
  refine List.ext_getElem? fun i => ?_
  simp only [slice, State.ibufSlice, List.getElem?_take, List.getElem?_drop, ibufBytes_getElem?, List.getElem?_map]
  by_cases hi : i < b - a
  · simp [hi, show a + i < n by omega]
  · simp [hi]

theorem ibufBytes_eq_ibufSlice (s : State) (n : Nat) : s.ibufBytes n = s.ibufSlice 0 n := by
  simp [State.ibufBytes, State.ibufSlice]

theorem getElem?_ibufSlice {s : State} {a n i : Nat} (hi : i < n) : (s.ibufSlice a n)[i]? = some (s.ibufByte (a + i)) := by
  simp [State.ibufSlice, hi]

/-- A chunk byte just stored is the byte of the data. -/
theorem chdataByte_retire_setChunk {s : State} {ty len : Word} {d : List Byte} {crc : Word} {i : Nat} {b : Byte} (h : d[i]? = some b) :
    ((s.setChunk ty len d crc).retire .ok .none).chdataByte i = b := by
  have hbyte : ((s.setChunk ty len d crc).retire .ok .none).chdataByte i = _ := chdataByte_writeBytes s d i
  rw [hbyte, h, Option.getD_some]

/-- What a successful CHUNK_NEW leaves in the chunk register set (42_chunk_framer R164). -/
theorem chunkNew_result {s t : State} (h : exec .chunkNew s = .next t) (hok : t.err = .ok) :
    t.chValid = true ∧ t.chType = s.tag ∧ t.chLen = s.ibufLen ∧
      t.chCrc = crc32 (bytesBe32 s.tag ++ s.ibufSlice 0 s.ibufLen.toNat) ∧ ∀ i, i < t.chLen.toNat → t.chdataByte i = s.ibufByte i := by
  obtain rfl : s.complete (chunkNew s) = t := by cases h; rfl
  rcases chunkNew_cases s with ⟨_, e⟩ | ⟨_, e⟩ <;> rw [e] at hok ⊢
  · cases hok
  · rw [ibufBytes_eq_ibufSlice]
    refine ⟨rfl, rfl, rfl, rfl, fun i hi => chdataByte_retire_setChunk ?_⟩
    have hlen : i < s.ibufLen.toNat := hi
    rw [getElem?_ibufSlice hlen, Nat.zero_add]

/-- What a successful CHUNK_DECODE leaves in the chunk register set (42_chunk_framer R170). -/
theorem chunkDecode_result {s t : State} (h : exec .chunkDecode s = .next t) (hok : t.err = .ok) :
    t.chValid = true ∧ t.chType = be32 (s.ibufSlice 4 4) ∧ t.chLen = be32 (s.ibufSlice 0 4) ∧
      t.chLen.toNat + 12 = s.ibufLen.toNat ∧ t.chCrc = be32 (s.ibufSlice (s.ibufLen.toNat - 4) 4) ∧
      ∀ i, i < t.chLen.toNat → t.chdataByte i = s.ibufByte (8 + i) := by
  obtain rfl : s.complete (chunkDecode s) = t := by cases h; rfl
  rcases chunkDecode_cases s with ⟨_, e⟩ | ⟨_, err, c, hd, e⟩ | ⟨_, ty, len, d, crc, hd, e⟩ <;> rw [e] at hok ⊢
  · cases hok
  · exact absurd hok (deframe_eq_fail hd).1
  · obtain ⟨hn, hlen, -, hty, hfield, hdata, hcrc⟩ := deframe_eq_ok hd
    rw [ibufBytes_length] at hn hlen hdata hcrc
    rw [slice_ibufBytes (by omega)] at hty hfield hdata hcrc
    refine ⟨rfl, hty, hfield, by simp; omega, ?_, fun i hi => chdataByte_retire_setChunk ?_⟩
    · rw [show s.ibufLen.toNat - (s.ibufLen.toNat - 4) = 4 by omega] at hcrc
      exact hcrc
    · rw [hdata]
      exact getElem?_ibufSlice (by simp at hi; omega)

/-- Settles O48: the writers of the set, what a success leaves in it by command, and the no-chunk invariant. -/
theorem chunkSetChangesOnlyByItsCommands : Obligations.ChunkSetChangesOnlyByItsCommands := by
  refine ⟨fun s t h => (stepEffect_of_step h).chunkWriters, fun s t h => ⟨fun hc hok => ?_, fun hc hok => ?_, fun hkind => ?_⟩,
    fun s t hs h => (stepEffect_of_step h).noChunkOk hs⟩
  · rw [step_of_completes hc] at h
    have hset := chunkNew_result h hok
    exact hset
  · rw [step_of_completes hc] at h
    have hset := chunkDecode_result h hok
    exact hset
  · rcases hkind with hc | hr
    · rw [step_of_completes hc] at h
      cases h
      exact ⟨rfl, rfl, rfl, rfl⟩
    · rw [step_of_reset hr] at h
      cases h
      exact ⟨rfl, rfl, rfl, rfl⟩

end Sys2Proof.Machine
end

section
/-! PROOFS. The sticky bus flags: which rows set `BUSERR` and `WRBUSY`, and which addresses those rows stand at. -/

namespace Sys2Proof.Machine

open Sys2Proof

/-! ### BUSERR -/

/-- The rows that set `BUSERR` (20_memory R63 to R66): a misaligned access, a reserved offset, a write to a read-only target. -/
def State.FlagsBuserr (s : State) : Instr → Prop
  | .rdMisaligned1 _ | .rdMisaligned2 _ | .rdMisaligned3 _ => True
  | .wrMisaligned1 _ _ | .wrMisaligned2 _ _ | .wrMisaligned3 _ _ => True
  | .rdRegReserved _ | .wrRegReserved _ _ => True
  | .wrId _ | .wrParam _ | .wrTag _ | .wrTagFlags _ | .wrChType _ | .wrChFlags _ | .wrChLen _ | .wrChCrc _ => True
  | .wrObufLen _ | .wrCrcAcc _ | .wrCrcValue _ | .wrChdata _ _ | .wrObuf _ _ => True
  | .rdIbuf off | .wrIbuf off _ => s.ibufMax ≤ off.toNat
  | .rdChdata off => s.dataMax ≤ off.toNat
  | .rdObuf off => s.obufMax ≤ off.toNat
  | _ => False

theorem windowRead_buserr (s : State) (off : Offset) (size : Nat) (v : Word) :
    (s.windowRead off size v).buserr = true ↔ size ≤ off.toNat ∨ s.buserr = true := by
  rcases s.windowRead_cases off size v with ⟨hlt, e⟩ | ⟨hle, e⟩ <;> rw [e]
  · simp [Nat.not_le.mpr hlt]
  · simp [hle]

/-- A write that can be blocked touches `BUSERR` in neither case. -/
theorem unlessBusy_buserr {s t : State} (h : t.buserr = s.buserr) : (s.unlessBusy t).buserr = s.buserr := by
  rcases s.unlessBusy_cases t with ⟨-, e⟩ | ⟨-, e⟩ <;> rw [e]
  · rfl
  · exact h

/-- `BUSERR` after a transaction of the row `i`. -/
theorem exec_buserr {i : Instr} {s t : State} (hi : i.isCommand = false) (h : exec i s = .next t) :
    t.buserr = true ↔ s.FlagsBuserr i ∨ (s.buserr = true ∧ ¬∃ w, i = .wrStatus w ∧ w.getLsbD 16 = true) := by
  cases i <;> simp only [Instr.isCommand, Bool.true_eq_false] at hi
  all_goals cases h
  case wrStatus w => simp [State.FlagsBuserr, State.clearStatus]
  case wrCmd w => simp [State.FlagsBuserr, unlessBusy_buserr (State.accept_buserr s w)]
  case wrTypeIn w => simp [State.FlagsBuserr, unlessBusy_buserr]
  case wrIbufLen w => simp [State.FlagsBuserr, unlessBusy_buserr]
  case wrIbuf off w =>
    split
    · next hlt => simp [State.FlagsBuserr, unlessBusy_buserr, hlt]
    · next hle => simp [State.FlagsBuserr, Nat.not_lt.mp hle]
  case rdIbuf off => simp [State.FlagsBuserr, windowRead_buserr]
  case rdChdata off => simp [State.FlagsBuserr, windowRead_buserr]
  case rdObuf off => simp [State.FlagsBuserr, windowRead_buserr]
  all_goals simp [State.FlagsBuserr]

/-- The rows that set `BUSERR` are those of the bad accesses (10_state R32). -/
theorem flagsBuserr_decodeBus (s : State) (tr : Transaction) : s.FlagsBuserr (decodeBus tr) ↔ s.BadAccess tr := by
  obtain ⟨we, a, w⟩ := tr
  simp only [State.BadAccess, Misaligned, State.Reserved, ReadOnly, regionOf, offsetOf]
  cases we with
  | false =>
    rcases decodeRead_cases a with
      ⟨ha, e⟩ | ⟨ha, e⟩ | ⟨ha, e⟩ | ⟨ha, ⟨r, rfl, e⟩ | ⟨hr, ho, e⟩ | ⟨hr, e⟩ | ⟨hr, e⟩ | ⟨hr, e⟩⟩ <;>
      simp only [decodeBus, Bool.false_eq_true, if_false, e]
    case inr.inr.inr.inl => cases r <;> simp [Reg.readRow, Reg.offset, State.FlagsBuserr]
    all_goals simp only [State.FlagsBuserr, offsetBits_toNat, true_iff, false_and, or_false]; omega
  | true =>
    rcases decodeWrite_cases a w with
      ⟨ha, e⟩ | ⟨ha, e⟩ | ⟨ha, e⟩ | ⟨ha, ⟨r, rfl, e⟩ | ⟨hr, ho, e⟩ | ⟨hr, e⟩ | ⟨hr, e⟩ | ⟨hr, e⟩⟩ <;>
      simp only [decodeBus, if_true, e]
    case inr.inr.inr.inl => cases r <;> simp [Reg.writeRow, Reg.offset, State.FlagsBuserr]
    all_goals simp only [State.FlagsBuserr, offsetBits_toNat, true_iff, true_and, List.mem_cons]; omega

/-- The `STATUS` write row is a write to the address of `STATUS`. -/
theorem decodeBus_eq_wrStatus (tr : Transaction) (w : Word) : decodeBus tr = .wrStatus w ↔ WritesStatus tr w := by
  refine ⟨fun h => ?_, ?_⟩
  · obtain ⟨hwe, h⟩ := write_of_encode h rfl
    rcases decodeWrite_cases tr.addr tr.data with
      ⟨_, e⟩ | ⟨_, e⟩ | ⟨_, e⟩ | ⟨_, ⟨r, ha, e⟩ | ⟨_, _, e⟩ | ⟨_, e⟩ | ⟨_, e⟩ | ⟨_, e⟩⟩ <;> rw [e] at h
    case inr.inr.inr.inl =>
      cases r <;> cases h
      exact ⟨hwe, ha, rfl⟩
    all_goals cases h
  · obtain ⟨we, a, v⟩ := tr
    rintro ⟨rfl, rfl, rfl⟩
    exact (decodeBus_register .status _).2

/-! ### No command reads BUSERR -/

/-- An outcome with `BUSERR` set to `b` in what it writes. -/
def CmdOutcome.withBuserr (b : Bool) : CmdOutcome → CmdOutcome
  | .ok t => .ok { t with buserr := b }
  | .fail e c => .fail e c

theorem complete_withBuserr (s : State) (b : Bool) (o : CmdOutcome) :
    State.complete { s with buserr := b } (o.withBuserr b) = { s.complete o with buserr := b } := by
  cases o <;> rfl

theorem typeFromText_withBuserr (s : State) (b : Bool) :
    typeFromText { s with buserr := b } = (typeFromText s).withBuserr b := by
  simp only [typeFromText, apply_ite (CmdOutcome.withBuserr b)]
  rfl

theorem chunkNew_withBuserr (s : State) (b : Bool) : chunkNew { s with buserr := b } = (chunkNew s).withBuserr b := by
  simp only [chunkNew, apply_ite (CmdOutcome.withBuserr b)]
  rfl

theorem chunkDecode_of_deframe_fail {s : State} {e : Err} {c : Cause} (hcap : s.ibufLen.toNat ≤ s.ibufMax)
    (hd : deframe (s.ibufBytes s.ibufLen.toNat) = .fail e c) : chunkDecode s = .fail e c := by
  rw [chunkDecode, if_neg (Nat.not_lt.mpr hcap), hd]

theorem chunkDecode_of_deframe_ok {s : State} {ty len crc : Word} {d : List Byte} (hcap : s.ibufLen.toNat ≤ s.ibufMax)
    (hd : deframe (s.ibufBytes s.ibufLen.toNat) = .ok ty len d crc) : chunkDecode s = .ok (s.setChunk ty len d crc) := by
  rw [chunkDecode, if_neg (Nat.not_lt.mpr hcap), hd]

theorem chunkDecode_withBuserr (s : State) (b : Bool) : chunkDecode { s with buserr := b } = (chunkDecode s).withBuserr b := by
  rcases chunkDecode_cases s with ⟨hcap, e⟩ | ⟨hcap, err, c, hd, e⟩ | ⟨hcap, ty, len, d, crc, hd, e⟩ <;> rw [e]
  · exact if_pos hcap
  · exact chunkDecode_of_deframe_fail hcap hd
  · exact chunkDecode_of_deframe_ok hcap hd

theorem chunkEncode_withBuserr (s : State) (b : Bool) : chunkEncode { s with buserr := b } = (chunkEncode s).withBuserr b := by
  simp only [chunkEncode, apply_ite (CmdOutcome.withBuserr b)]
  rfl

theorem dataAsText_withBuserr (s : State) (b : Bool) : dataAsText { s with buserr := b } = (dataAsText s).withBuserr b := by
  simp only [dataAsText, apply_ite (CmdOutcome.withBuserr b)]
  rfl

theorem crcAccum_withBuserr (s : State) (b : Bool) : crcAccum { s with buserr := b } = (crcAccum s).withBuserr b := by
  simp only [crcAccum, apply_ite (CmdOutcome.withBuserr b)]
  rfl

/-- A command does the same whatever `BUSERR` is. -/
theorem exec_command_withBuserr {i : Instr} {s t : State} (b : Bool) (hi : i.isCommand = true) (h : exec i s = .next t) :
    exec i { s with buserr := b } = .next { t with buserr := b } := by
  cases i <;> simp only [Instr.isCommand, Bool.false_eq_true] at hi
  all_goals
    cases h
    refine congrArg Host.Outcome.next ?_
    rw [← complete_withBuserr]
  case typeFromBytes => rfl
  case typeFromText => rw [typeFromText_withBuserr]
  case chunkNew => rw [chunkNew_withBuserr]
  case chunkDecode => rw [chunkDecode_withBuserr]
  case chunkEncode => rw [chunkEncode_withBuserr]
  case dataAsText => rw [dataAsText_withBuserr]
  case chunkDiscard => rfl
  case crcClear => rfl
  case crcAccum => rw [crcAccum_withBuserr]
  case illegalCmd w => rfl

/-- Settles O49: `BUSERR` by the row of a transaction, the rows by their addresses, and no command reads or writes it. -/
theorem buserrIsStickyAndSetByBadAccesses : Obligations.BuserrIsStickyAndSetByBadAccesses := by
  refine ⟨fun s t tr htr h => ?_, fun s t hq h => (keepsHostState_of_nextIsSeq hq h).buserr, fun s t hr h => ?_,
    fun i s t b hi h => exec_command_withBuserr b hi h⟩
  · rw [step_of_host htr] at h
    have hflag := exec_buserr (decodeBus_isCommand tr) h
    simp only [flagsBuserr_decodeBus, decodeBus_eq_wrStatus] at hflag
    exact hflag
  · rw [step_of_reset hr] at h
    cases h
    rfl

/-! ### WRBUSY -/

/-- The rows whose write is blocked while `BUSY = 1` (20_memory R65): `CMD`, `TYPE_IN`, `IBUF_LEN` and a backed IBUF word. -/
def State.BlocksRow (s : State) : Instr → Prop
  | .wrCmd _ | .wrTypeIn _ | .wrIbufLen _ => True
  | .wrIbuf off _ => off.toNat < s.ibufMax
  | _ => False

/-- A blocked write is ignored with `WRBUSY <- 1` (10_state R33). -/
theorem exec_blocked {i : Instr} {s : State} (hb : s.busy = true) (h : s.BlocksRow i) : exec i s = .next s.flagWrbusy := by
  cases i <;> simp only [State.BlocksRow] at h
  case wrCmd w => rw [exec_wrCmd, State.unlessBusy_of_busy hb]
  case wrTypeIn w => rw [exec_wrTypeIn, State.unlessBusy_of_busy hb]
  case wrIbufLen w => rw [exec_wrIbufLen, State.unlessBusy_of_busy hb]
  case wrIbuf off w => rw [exec, execWrIbuf, if_pos h, State.unlessBusy_of_busy hb]

theorem windowRead_wrbusy (s : State) (off : Offset) (size : Nat) (v : Word) : (s.windowRead off size v).wrbusy = s.wrbusy := by
  rcases s.windowRead_cases off size v with ⟨-, e⟩ | ⟨-, e⟩ <;> rw [e] <;> rfl

/-- A write that can be blocked sets `WRBUSY` exactly when it is blocked. -/
theorem unlessBusy_wrbusy {s t : State} (h : t.wrbusy = s.wrbusy) :
    (s.unlessBusy t).wrbusy = true ↔ s.busy = true ∨ s.wrbusy = true := by
  rcases s.unlessBusy_cases t with ⟨hb, e⟩ | ⟨hb, e⟩ <;> rw [e]
  · simp [hb]
  · simp [hb, h]

/-- `WRBUSY` after a transaction of the row `i`. -/
theorem exec_wrbusy {i : Instr} {s t : State} (hi : i.isCommand = false) (h : exec i s = .next t) :
    t.wrbusy = true ↔ (s.busy = true ∧ s.BlocksRow i) ∨ (s.wrbusy = true ∧ ¬∃ w, i = .wrStatus w ∧ w.getLsbD 17 = true) := by
  cases i <;> simp only [Instr.isCommand, Bool.true_eq_false] at hi
  all_goals cases h
  case wrStatus w => simp [State.BlocksRow, State.clearStatus]
  case wrCmd w => simp [State.BlocksRow, unlessBusy_wrbusy (State.accept_wrbusy s w)]
  case wrTypeIn w => simp [State.BlocksRow, unlessBusy_wrbusy]
  case wrIbufLen w => simp [State.BlocksRow, unlessBusy_wrbusy]
  case wrIbuf off w =>
    split
    · next hlt => simp [State.BlocksRow, unlessBusy_wrbusy, hlt]
    · next hle => simp [State.BlocksRow, hle]
  case rdIbuf off => simp [State.BlocksRow, windowRead_wrbusy]
  case rdChdata off => simp [State.BlocksRow, windowRead_wrbusy]
  case rdObuf off => simp [State.BlocksRow, windowRead_wrbusy]
  all_goals simp [State.BlocksRow]

/-- The rows that can be blocked are the writes at the blockable addresses (10_state R33). -/
theorem blocksRow_decodeBus (s : State) (tr : Transaction) :
    s.BlocksRow (decodeBus tr) ↔ tr.we = true ∧ s.WriteBlockable tr.addr := by
  obtain ⟨we, a, w⟩ := tr
  simp only [State.WriteBlockable, Misaligned, regionOf, offsetOf]
  cases we with
  | false =>
    rcases decodeRead_cases a with
      ⟨_, e⟩ | ⟨_, e⟩ | ⟨_, e⟩ | ⟨_, ⟨r, _, e⟩ | ⟨_, _, e⟩ | ⟨_, e⟩ | ⟨_, e⟩ | ⟨_, e⟩⟩ <;>
      simp only [decodeBus, Bool.false_eq_true, if_false, e, false_and, iff_false]
    case inr.inr.inr.inl => cases r <;> exact id
    all_goals exact id
  | true =>
    rcases decodeWrite_cases a w with
      ⟨ha, e⟩ | ⟨ha, e⟩ | ⟨ha, e⟩ | ⟨ha, ⟨r, rfl, e⟩ | ⟨hr, ho, e⟩ | ⟨hr, e⟩ | ⟨hr, e⟩ | ⟨hr, e⟩⟩ <;>
      simp only [decodeBus, if_true, e]
    case inr.inr.inr.inl => cases r <;> simp [Reg.writeRow, Reg.offset, State.BlocksRow]
    all_goals simp only [State.BlocksRow, offsetBits_toNat, false_iff, true_and, List.mem_cons, List.not_mem_nil, or_false]; omega

/-- Settles O50: `WRBUSY` by the row of a transaction, and the rows by their addresses. -/
theorem wrbusyIsStickyAndSetByBlockedWrites : Obligations.WrbusyIsStickyAndSetByBlockedWrites := by
  refine ⟨fun s t tr htr h => ?_, fun s t hq h => (keepsHostState_of_nextIsSeq hq h).wrbusy, fun s t hr h => ?_⟩
  · rw [step_of_host htr] at h
    refine ⟨?_, fun hb hwe ha => ?_⟩
    · have hflag := exec_wrbusy (decodeBus_isCommand tr) h
      simp only [blocksRow_decodeBus, decodeBus_eq_wrStatus] at hflag
      exact hflag
    · rw [exec_blocked (s := s.dropMove) hb ((blocksRow_decodeBus _ tr).mpr ⟨hwe, ha⟩)] at h
      cases h
      rfl
  · rw [step_of_reset hr] at h
    cases h
    rfl

end Sys2Proof.Machine
end

section
/-! PROOFS. The bus accesses of 20_memory section 5: the rows that only set `BUSERR`, the three windows, and repeated writes. -/

namespace Sys2Proof.Machine

open Sys2Proof

/-! ### Accesses that only set BUSERR -/

/-- Settles O9: the low two bits of a misaligned address pick one of the three misaligned rows. -/
theorem misalignedAccessOnlyFlagsBuserr : Obligations.MisalignedAccessOnlyFlagsBuserr := by
  refine ⟨fun a w s ha => ?_, fun a w s => ⟨rfl, rfl, rfl, rfl, rfl, rfl⟩⟩
  obtain ⟨-, hrow, -⟩ := registerMapDecodes
  obtain ⟨row1, row2, row3⟩ := hrow a w
  have hbits : a.toNat % 4 = 1 ∨ a.toNat % 4 = 2 ∨ a.toNat % 4 = 3 := by
    simp only [Misaligned] at ha
    omega
  rcases hbits with h | h | h
  · rw [(row1 h).1, (row1 h).2]
    exact ⟨rfl, rfl⟩
  · rw [(row2 h).1, (row2 h).2]
    exact ⟨rfl, rfl⟩
  · rw [(row3 h).1, (row3 h).2]
    exact ⟨rfl, rfl⟩

theorem State.windowRead_of_backed {s : State} {off : Offset} {size : Nat} {v : Word} (h : off.toNat < size) :
    s.windowRead off size v = s.reply v := if_pos h

theorem State.windowRead_of_unbacked {s : State} {off : Offset} {size : Nat} {v : Word} (h : size ≤ off.toNat) :
    s.windowRead off size v = s.badRead := if_neg (Nat.not_lt.mpr h)

theorem exec_rdIbuf (off : Offset) (s : State) :
    exec (.rdIbuf off) s = .next (s.windowRead off s.ibufMax (s.ibufWord off.toNat)) := rfl
theorem exec_rdChdata (off : Offset) (s : State) :
    exec (.rdChdata off) s = .next (s.windowRead off s.dataMax (s.chdataWord off.toNat)) := rfl
theorem exec_rdObuf (off : Offset) (s : State) :
    exec (.rdObuf off) s = .next (s.windowRead off s.obufMax (s.obufWord off.toNat)) := rfl

theorem exec_wrIbuf_of_unbacked {off : Offset} {s : State} (w : Word) (h : s.ibufMax ≤ off.toNat) :
    exec (.wrIbuf off w) s = .next s.flagBuserr := congrArg Host.Outcome.next (if_neg (Nat.not_lt.mpr h))

/-- The offset operand of an address is its offset. -/
theorem toNat_ofNat_offsetOf (a : Word) : (BitVec.ofNat 30 (offsetOf a)).toNat = offsetOf a := by
  rw [← offsetBits_eq_ofNat, offsetBits_toNat, offsetOf]

/-- Settles O10: a reserved offset is past the registers or past the backed size of its window, and its row then sets only `BUSERR`. -/
theorem reservedAccessOnlyFlagsBuserr : Obligations.ReservedAccessOnlyFlagsBuserr := by
  refine ⟨fun a w s hres ha => ?_, fun a s h0 hr => ?_, fun off w s => ⟨rfl, rfl⟩⟩
  · obtain ⟨hrow, -, -⟩ := registerMapDecodes
    obtain ⟨regRow, ibufRow, chdataRow, obufRow⟩ := hrow a w ha
    have hoff := toNat_ofNat_offsetOf a
    rcases hres with ⟨hr, ho⟩ | ⟨hr, ho⟩ | ⟨hr, ho⟩ | ⟨hr, ho⟩
    · rw [(regRow hr ho).1, (regRow hr ho).2]
      exact ⟨rfl, rfl⟩
    · rw [← hoff] at ho
      rw [(ibufRow hr).1, (ibufRow hr).2, exec_rdIbuf, State.windowRead_of_unbacked ho, exec_wrIbuf_of_unbacked w ho]
      exact ⟨rfl, rfl⟩
    · rw [← hoff] at ho
      rw [(chdataRow hr).1, (chdataRow hr).2, exec_rdChdata, State.windowRead_of_unbacked ho]
      exact ⟨rfl, rfl⟩
    · rw [← hoff] at ho
      rw [(obufRow hr).1, (obufRow hr).2, exec_rdObuf, State.windowRead_of_unbacked ho]
      exact ⟨rfl, rfl⟩
  · exact .inr (.inr (.inl ⟨hr, h0 ▸ Nat.zero_le _⟩))

/-- A write row of a read-only register is ignored with `BUSERR` (20_memory R65). -/
theorem exec_writeRow_of_readOnly {r : Reg} (h : r ∉ [.ctrl, .status, .cmd, .typeIn, .ibufLen]) (w : Word) (s : State) :
    exec (r.writeRow w) s = .next s.flagBuserr := by
  cases r
  case ctrl | status | cmd | typeIn | ibufLen => exact absurd (by decide) h
  all_goals rfl

/-- Settles O15: the eleven registers outside the five writable ones, and the two read-only windows. -/
theorem readOnlyWriteOnlyFlagsBuserr : Obligations.ReadOnlyWriteOnlyFlagsBuserr := by
  intro w off s
  have hro := fun r h => exec_writeRow_of_readOnly (r := r) h w s
  exact ⟨hro .id (by decide), hro .param (by decide), hro .tag (by decide), hro .tagFlags (by decide),
    hro .chType (by decide), hro .chFlags (by decide), hro .chLen (by decide), hro .chCrc (by decide),
    hro .obufLen (by decide), hro .crcAcc (by decide), hro .crcValue (by decide), rfl, rfl⟩

/-! ### Window reads -/

/-- Settles O13: the answer is `be32` of the four bytes. -/
theorem ibufReadPacksFourBytes : Obligations.IbufReadPacksFourBytes := by
  intro off s
  rw [exec_rdIbuf]
  refine ⟨fun h => ?_, fun h => ?_⟩
  · rw [State.windowRead_of_backed h]
    exact ⟨_, rfl, extract_be32 _ _ _ _⟩
  · rw [State.windowRead_of_unbacked h]
    rfl

/-- Byte `k` of a big-endian word, counted from the first. -/
theorem extract_be32_of_lt (f : Nat → Byte) (n : Nat) {k : Nat} (hk : k < 4) :
    (be32 [f n, f (n + 1), f (n + 2), f (n + 3)]).extractLsb' (24 - 8 * k) 8 = f (n + k) := by
  obtain ⟨h0, h1, h2, h3⟩ := extract_be32 (f n) (f (n + 1)) (f (n + 2)) (f (n + 3))
  interval_cases k
  · exact h0
  · exact h1
  · exact h2
  · exact h3

/-- Settles O14: the answer is `be32` of the four bytes as the bus sees them, which masks each past the length. -/
theorem maskedWindowReadsHideStaleBytes : Obligations.MaskedWindowReadsHideStaleBytes := by
  intro off s
  rw [exec_rdChdata, exec_rdObuf]
  refine ⟨fun h => ?_, fun h => ?_, fun h => ?_, fun h => ?_⟩
  · rw [State.windowRead_of_backed h]
    exact ⟨_, rfl, fun k hk => extract_be32_of_lt s.chdataSeen _ hk⟩
  · rw [State.windowRead_of_unbacked h]
    rfl
  · rw [State.windowRead_of_backed h]
    exact ⟨_, rfl, fun k hk => extract_be32_of_lt s.obufSeen _ hk⟩
  · rw [State.windowRead_of_unbacked h]
    rfl

/-! ### Writes to the IBUF window -/

/-- `IBUF[n .. n+4) <- bytes_be32(w)` (20_memory R65). -/
def State.storeWord (s : State) (n : Nat) (w : Word) : State := { s with ibuf := s.ibuf.writeBytes n (bytesBe32 w) }

theorem exec_wrIbuf_of_backed {off : Offset} {s : State} (w : Word) (h : off.toNat < s.ibufMax) :
    exec (.wrIbuf off w) s = .next (s.unlessBusy (s.storeWord off.toNat w)) := congrArg Host.Outcome.next (if_pos h)

theorem exec_wrIbuf_of_idle {off : Offset} {s : State} (w : Word) (h : off.toNat < s.ibufMax) (hb : s.busy = false) :
    exec (.wrIbuf off w) s = .next (s.storeWord off.toNat w) := by
  rw [exec_wrIbuf_of_backed w h, State.unlessBusy_of_idle hb]

/-- The four bytes of the word stored, first byte highest. -/
theorem ibufByte_storeWord (s : State) (n : Nat) (w : Word) :
    (s.storeWord n w).ibufByte n = w.extractLsb' 24 8 ∧ (s.storeWord n w).ibufByte (n + 1) = w.extractLsb' 16 8 ∧
    (s.storeWord n w).ibufByte (n + 2) = w.extractLsb' 8 8 ∧ (s.storeWord n w).ibufByte (n + 3) = w.extractLsb' 0 8 := by
  simp [State.storeWord, State.ibufByte, Memory.read?_writeBytes, bytesBe32]

theorem ibufByte_storeWord_of_outside {s : State} {n i : Nat} {w : Word} (h : i < n ∨ n + 4 ≤ i) :
    (s.storeWord n w).ibufByte i = s.ibufByte i := by
  rw [State.ibufByte, State.storeWord, Memory.read?_writeBytes, if_neg (by rw [bytesBe32_length]; omega), State.ibufByte]

/-- Settles O20: the tests of R65 in their order, then the bytes of the word stored and of the others. -/
theorem ibufWriteStoresFourBytes : Obligations.IbufWriteStoresFourBytes := by
  refine fun off w s => ⟨fun h => exec_wrIbuf_of_unbacked w h, fun h hb => ?_, fun h hb => ?_⟩
  · rw [exec_wrIbuf_of_backed w h, State.unlessBusy_of_busy hb]
    rfl
  · obtain ⟨h0, h1, h2, h3⟩ := ibufByte_storeWord s off.toNat w
    exact ⟨_, exec_wrIbuf_of_idle w h hb, rfl, h0, h1, h2, h3, fun i hi => ibufByte_storeWord_of_outside hi⟩

theorem ibufWord_storeWord_same (s : State) (n : Nat) (w : Word) : (s.storeWord n w).ibufWord n = w := by
  obtain ⟨h0, h1, h2, h3⟩ := ibufByte_storeWord s n w
  rw [State.ibufWord, h0, h1, h2, h3]
  exact be32_bytesBe32 w

/-- Two aligned words are the same or share no byte. -/
theorem ibufWord_storeWord_of_ne {s : State} {n m : Nat} {w : Word} (hn : n % 4 = 0) (hm : m % 4 = 0) (h : m ≠ n) :
    (s.storeWord n w).ibufWord m = s.ibufWord m := by
  have hbyte (k : Nat) (hk : k < 4) : (s.storeWord n w).ibufByte (m + k) = s.ibufByte (m + k) :=
    ibufByte_storeWord_of_outside (by omega)
  rw [State.ibufWord, hbyte 1 (by decide), hbyte 2 (by decide), hbyte 3 (by decide), State.ibufWord]
  exact congrArg (fun b => be32 (b :: _)) (hbyte 0 (by decide))

/-- Settles O21: the word stored is read back, and aligned words do not overlap. -/
theorem ibufWordReadsBack : Obligations.IbufWordReadsBack := by
  intro off off' w s t h h' hb h4 h4' hexec
  rw [exec_wrIbuf_of_idle w h hb] at hexec
  cases hexec
  rw [exec_rdIbuf, State.windowRead_of_backed (show off'.toNat < (s.storeWord off.toNat w).ibufMax from h')]
  split
  · next heq => rw [heq, ibufWord_storeWord_same, State.reply]
  · next hne =>
    rw [ibufWord_storeWord_of_ne h4 h4' (BitVec.toNat_inj.not.mpr hne), State.reply]

/-! ### Repeated writes -/

/-- In canonical form, every index that is listed after the first entry is above it. -/
theorem Memory.lt_of_read?_tail {c : Host.Cell} {m : Memory} (hm : Memory.wf (c :: m) = true) {i : Nat} {v : Byte}
    (h : m.read? i = some v) : c.1 < i := by
  induction m generalizing c with
  | nil => cases h
  | cons d m ih =>
    obtain ⟨hhead, htail⟩ := Memory.wf_cons.mp hm
    have hcd : c.1 < d.1 := hhead d rfl
    simp only [Memory.read?] at h
    split at h
    · next heq => omega
    · exact hcd.trans (ih htail h)

/-- In canonical form, storing what an index already holds changes nothing. -/
theorem Memory.write_eq_self {m : Memory} (hm : m.wf = true) {i : Nat} {v : Byte} (h : m.read? i = some v) : m.write i v = m := by
  induction m with
  | nil => cases h
  | cons c m ih =>
    simp only [Memory.read?] at h
    split at h
    · next heq =>
      cases h
      simp [Memory.write, heq]
    · next hne =>
      have hlt := Memory.lt_of_read?_tail hm h
      rw [Memory.write, if_neg (by omega), if_neg hne, ih (Memory.wf_tail hm) h]

theorem Memory.writeBytes_eq_self {m : Memory} (hm : m.wf = true) {a : Nat} {d : List Byte}
    (h : ∀ k b, d[k]? = some b → m.read? (a + k) = some b) : m.writeBytes a d = m := by
  induction d generalizing a with
  | nil => rfl
  | cons b d ih =>
    have hfirst : m.read? a = some b := h 0 b rfl
    rw [Memory.writeBytes, Memory.write_eq_self hm hfirst]
    exact ih fun k b' hk => by rw [Nat.add_assoc, Nat.add_comm 1 k]; exact h (k + 1) b' hk

/-- A string written twice at the same index is written once. -/
theorem Memory.writeBytes_writeBytes {m : Memory} (hm : m.wf = true) (a : Nat) (d : List Byte) :
    (m.writeBytes a d).writeBytes a d = m.writeBytes a d := by
  refine Memory.writeBytes_eq_self (Memory.wf_writeBytes hm a d) fun k b hk => ?_
  obtain ⟨hlt, -⟩ := List.getElem?_eq_some_iff.mp hk
  rw [Memory.read?_writeBytes, if_pos ⟨Nat.le_add_right a k, Nat.add_lt_add_left hlt a⟩, Nat.add_sub_cancel_left, hk]

theorem storeWord_storeWord {s : State} (h : s.MemoryOk) (n : Nat) (w : Word) :
    (s.storeWord n w).storeWord n w = s.storeWord n w :=
  congrArg (fun m => { s with ibuf := m }) (Memory.writeBytes_writeBytes h.ibuf_wf n (bytesBe32 w))

theorem clearStatus_clearStatus (s : State) (w : Word) : (s.clearStatus w).clearStatus w = s.clearStatus w := by
  simp [State.clearStatus]

/-- A write that can be blocked, with the effect `f`, is blocked again or has its effect again. -/
theorem unlessBusy_unlessBusy {s : State} {f : State → State} (hb : (f s).busy = s.busy) (hf : f (f s) = f s) :
    (s.unlessBusy (f s)).unlessBusy (f (s.unlessBusy (f s))) = s.unlessBusy (f s) := by
  rcases s.unlessBusy_cases (f s) with ⟨hbusy, e⟩ | ⟨hidle, e⟩ <;> rw [e]
  · exact State.unlessBusy_of_busy hbusy
  · rw [State.unlessBusy_of_idle (hb.trans hidle), hf]

/-- Settles O22: each effect, applied to its own result, gives that result again; for IBUF because the storage is canonical. -/
theorem repeatedWriteIsIdempotent : Obligations.RepeatedWriteIsIdempotent := by
  intro i s t hs hi h
  cases i <;> simp only at hi
  case wrCtrl w =>
    cases h
    rfl
  case wrStatus w =>
    cases h
    rw [exec_wrStatus, clearStatus_clearStatus]
  case wrTypeIn w =>
    cases h
    exact congrArg Host.Outcome.next (unlessBusy_unlessBusy (f := fun s => { s with typeIn := w }) rfl rfl)
  case wrIbufLen w =>
    cases h
    exact congrArg Host.Outcome.next (unlessBusy_unlessBusy (f := fun s => { s with ibufLen := w }) rfl rfl)
  case wrIbuf off w =>
    rcases Nat.lt_or_ge off.toNat s.ibufMax with hlt | hge
    · rw [exec_wrIbuf_of_backed w hlt] at h
      cases h
      have hback : off.toNat < (s.unlessBusy (s.storeWord off.toNat w)).ibufMax := by
        rcases s.unlessBusy_cases (s.storeWord off.toNat w) with ⟨-, e⟩ | ⟨-, e⟩ <;> rw [e] <;> exact hlt
      rw [exec_wrIbuf_of_backed w hback]
      exact congrArg Host.Outcome.next
        (unlessBusy_unlessBusy (f := fun s => s.storeWord off.toNat w) rfl (storeWord_storeWord hs off.toNat w))
    · rw [exec_wrIbuf_of_unbacked w hge] at h
      cases h
      exact exec_wrIbuf_of_unbacked w hge

/-! ### The frame in the OBUF window -/

/-- What CHUNK_ENCODE leaves of a chunk in OBUF (42_chunk_framer R166). -/
theorem chunkEncode_result {s t : State} (hv : s.chValid = true) (h : exec .chunkEncode s = .next t) :
    t.obufLen = 12 + s.chLen ∧
      ∀ i, t.obufByte i = (frame s.chType (s.chdataBytes s.chLen.toNat) s.chCrc)[i]?.getD (s.obufByte i) := by
  obtain rfl : s.complete (chunkEncode s) = t := by cases h; rfl
  rcases chunkEncode_cases s with ⟨hnone, -⟩ | ⟨-, e⟩
  · rw [hv] at hnone
    cases hnone
  · rw [e]
    exact ⟨rfl, obufByte_writeBytes s _⟩

/-- A frame begins with its length field and its type field (42_chunk_framer R160). -/
theorem getElem?_frame (ty : Word) (d : List Byte) (crc : Word) {k : Nat} (hk : k < 4) :
    (frame ty d crc)[0 + k]? = (bytesBe32 (BitVec.ofNat 32 d.length))[k]? ∧ (frame ty d crc)[4 + k]? = (bytesBe32 ty)[k]? := by
  simp only [frame, List.append_assoc]
  refine ⟨?_, ?_⟩
  · rw [Nat.zero_add, List.getElem?_append_left hk]
  · rw [List.getElem?_append_right (by simp), bytesBe32_length, Nat.add_sub_cancel_left, List.getElem?_append_left hk]

/-- A visible word of OBUF whose four bytes are those of `w` reads as `w`. -/
theorem obufWord_eq {t : State} {n : Nat} {w : Word} (hn : n + 4 ≤ t.obufLen.toNat)
    (h : ∀ k, k < 4 → some (t.obufByte (n + k)) = (bytesBe32 w)[k]?) : t.obufWord n = w := by
  have hseen (k : Nat) (hk : k < 4) : some (t.obufSeen (n + k)) = (bytesBe32 w)[k]? := by
    rw [State.obufSeen, if_pos (by omega), h k hk]
  have h0 := hseen 0 (by decide)
  have h1 := hseen 1 (by decide)
  have h2 := hseen 2 (by decide)
  have h3 := hseen 3 (by decide)
  simp only [bytesBe32, List.getElem?_cons_zero, List.getElem?_cons_succ, Option.some.injEq, Nat.add_zero] at h0 h1 h2 h3
  rw [State.obufWord, h0, h1, h2, h3]
  exact be32_bytesBe32 w

theorem exec_rdObuf_of_backed {t : State} {off : Offset} {w : Word} (hoff : off.toNat < t.obufMax)
    (h : t.obufWord off.toNat = w) : exec (.rdObuf off) t = .next (t.reply w) := by
  rw [exec_rdObuf, State.windowRead_of_backed hoff, h]

/-- The sum of a chunk that fits CHDATA does not wrap (20_memory R76). -/
theorem toNat_twelve_add {s : State} (h : s.chLen.toNat ≤ s.dataMax) : (12 + s.chLen : Word).toNat = 12 + s.chLen.toNat := by
  have hbuild := s.dataWords.isLt
  simp only [State.dataMax] at h
  rw [BitVec.toNat_add]
  exact Nat.mod_eq_of_lt (by simp; omega)

/-- Settles O41: OBUF holds the frame of the chunk, all of it visible, and the frame begins with the two fields. -/
theorem obufBeginsWithLengthAndType : Obligations.ObufBeginsWithLengthAndType := by
  intro s t hc hv h
  obtain ⟨hfit, -⟩ := hc hv
  obtain ⟨hlen, hbyte⟩ := chunkEncode_result hv h
  have hvisible : 12 ≤ t.obufLen.toNat := by
    rw [hlen, toNat_twelve_add hfit]
    exact Nat.le_add_right _ _
  have hfield {n : Nat} {w : Word} (hn : n + 4 ≤ 12)
      (hframe : ∀ k, k < 4 → (frame s.chType (s.chdataBytes s.chLen.toNat) s.chCrc)[n + k]? = (bytesBe32 w)[k]?) :
      t.obufWord n = w := by
    refine obufWord_eq (hn.trans hvisible) fun k hk => ?_
    rw [hbyte, hframe k hk, List.getElem?_eq_getElem (show k < (bytesBe32 w).length from hk), Option.getD_some]
  have hlength : t.obufWord 0 = s.chLen := hfield (by decide) fun k hk => by
    rw [(getElem?_frame _ _ _ hk).1, chdataBytes_length, BitVec.ofNat_toNat, BitVec.setWidth_eq]
  have htype : t.obufWord 4 = s.chType := hfield (by decide) fun k hk => (getElem?_frame _ _ _ hk).2
  have hbacked : 12 ≤ t.obufMax := Nat.le_add_left 12 _
  exact ⟨exec_rdObuf_of_backed (Nat.lt_of_lt_of_le (by decide) hbacked) hlength,
    exec_rdObuf_of_backed (Nat.lt_of_lt_of_le (by decide) hbacked) htype⟩

end Sys2Proof.Machine
end

section
/-! PROOFS. The step by its next move, and a command in flight: no transaction touches it, and it completes whatever comes before. -/

namespace Sys2Proof.Machine

open Sys2Proof

/-! ### The step by its next move -/

theorem State.dropMove_of_cons {s : State} {m : Move} {l : List Move} (h : s.sched = m :: l) : s.dropMove = { s with sched := l } := by
  rw [State.dropMove, h, List.tail_cons]

theorem State.dropMove_of_nil {s : State} (h : s.sched = []) : s.dropMove = s := by
  rw [State.dropMove, h, List.tail_nil, ← h]

theorem step_of_wait {s : State} (hq : s.NextIsSeq) (hb : s.busy = false) : step s = .next s.dropMove := by
  rcases hq with h | ⟨l, h⟩
  · simp [step, State.fetch, h, hb, State.dropMove_of_nil h]
  · simp [step, State.fetch, h, hb]

/-- Settles O6: one clause per next move. -/
theorem stepRunsTheDecodedInstruction : Obligations.StepRunsTheDecodedInstruction := by
  refine ⟨fun s tr l h => ?_, fun s l h hb => ?_, fun s h hb => ?_, fun s l h hb => ?_, fun s h hb => ?_, fun s l h => ?_⟩
  · rw [step_of_host ⟨l, h⟩, State.dropMove_of_cons h]
  · rw [step_of_complete ⟨hb, .inr ⟨l, h⟩⟩, State.dropMove_of_cons h]
  · rw [step_of_complete ⟨hb, .inl h⟩, State.dropMove_of_nil h]
  · rw [step_of_wait (.inr ⟨l, h⟩) hb, State.dropMove_of_cons h]
  · rw [step_of_wait (.inl h) hb, State.dropMove_of_nil h]
  · rw [step_of_reset ⟨l, h⟩, State.dropMove_of_cons h, State.doReset]

/-! ### The inputs of a command and their context -/

theorem State.SameInputs.refl (s : State) : s.SameInputs s :=
  ⟨rfl, rfl, rfl, rfl, rfl, rfl, rfl, rfl, rfl, rfl, rfl, rfl, rfl, rfl, rfl, rfl⟩

/-- `s` with everything that is no input of a command taken from `u`: the flags, the interrupt enable, the codes, the port and the moves
still to come. -/
def State.withContext (s u : State) : State :=
  { s with
    ctrlIe := u.ctrlIe, busy := u.busy, done := u.done, buserr := u.buserr, wrbusy := u.wrbusy, err := u.err, cause := u.cause
    rdata := u.rdata, sched := u.sched }

theorem State.SameInputs.eq_withContext {s t : State} (h : s.SameInputs t) : t = s.withContext t := by
  cases t
  obtain ⟨rfl, rfl, rfl, rfl, rfl, rfl, rfl, rfl, rfl, rfl, rfl, rfl, rfl, rfl, rfl, rfl⟩ := h
  rfl

/-- What is no input does not matter to which inputs agree. -/
theorem State.SameInputs.trans {s t u : State} (hst : s.SameInputs t) (htu : t.SameInputs u) : s.SameInputs u := by
  rw [htu.eq_withContext]
  exact hst

/-! ### Host transactions while a command is in flight -/

/-- While `BUSY = 1` a transaction answers on the port or writes a flag (20_memory R69). -/
theorem BusEffect.of_busy {s t : State} {i : Instr} (e : BusEffect s i t) (hb : s.busy = true) :
    s.SameInputs t ∧ t.busy = true ∧ t.sched = s.sched := by
  cases e with
  | accept _ hidle | setTypeIn _ hidle | setIbufLen _ hidle | setIbuf _ _ hidle =>
    rw [hb] at hidle
    cases hidle
  | reply | badRead | flagBuserr | flagWrbusy | setCtrl | clearStatus => exact ⟨.refl s, hb, rfl⟩

/-- The step of a transaction while `BUSY = 1`. -/
theorem step_host_of_busy {s : State} {tr : Transaction} {l : List Move} (hb : s.busy = true) (h : s.sched = .host tr :: l) :
    ∃ t, step s = .next t ∧ s.SameInputs t ∧ t.busy = true ∧ t.sched = l := by
  have hi := decodeBus_isCommand tr
  obtain ⟨t, ht, -⟩ := exec_bus (decodeBus tr) s.dropMove hi
  obtain ⟨hin, hbusy, hsched⟩ := (busEffect_of_exec hi ht).of_busy hb
  exact ⟨t, by rw [step_of_host ⟨l, h⟩, ht], hin, hbusy, by rw [hsched, State.dropMove_sched, h, List.tail_cons]⟩

/-- Settles O58: an effect that is not blocked leaves the inputs alone, and no transaction writes a result. -/
theorem hostCannotTouchACommandInFlight : Obligations.HostCannotTouchACommandInFlight := by
  intro s t tr hb htr h
  rw [step_of_host htr] at h
  have e := busEffect_of_exec (decodeBus_isCommand tr) h
  obtain ⟨hin, hbusy, -⟩ := e.of_busy hb
  exact ⟨hin, hbusy, e.keepsResults.err, e.keepsResults.cause⟩

/-! ### A command is a function of its inputs -/

/-- An outcome with the context of `u` in what it writes. -/
def CmdOutcome.withContext (u : State) : CmdOutcome → CmdOutcome
  | .ok t => .ok (t.withContext u)
  | .fail e c => .fail e c

/-- A command answers the same outcome in every context (20_memory R69). -/
theorem exec_command_withContext {i : Instr} (hi : i.isCommand = true) (s u : State) :
    ∃ o, exec i s = .next (s.complete o) ∧
      exec i (s.withContext u) = .next ((s.withContext u).complete (o.withContext u)) := by
  cases i <;> simp only [Instr.isCommand, Bool.false_eq_true] at hi
  all_goals
    refine ⟨_, rfl, ?_⟩
    refine congrArg Host.Outcome.next (congrArg (State.complete (s.withContext u)) ?_)
  case typeFromBytes | chunkDiscard | crcClear | illegalCmd => rfl
  case chunkDecode =>
    rcases chunkDecode_cases s with ⟨hcap, e⟩ | ⟨hcap, err, c, hd, e⟩ | ⟨hcap, ty, len, d, crc, hd, e⟩ <;> rw [e]
    · exact if_pos hcap
    · exact chunkDecode_of_deframe_fail hcap hd
    · exact chunkDecode_of_deframe_ok hcap hd
  all_goals
    simp only [typeFromText, chunkNew, chunkEncode, dataAsText, crcAccum, apply_ite (CmdOutcome.withContext u)]
    rfl

/-- Completing with the same outcome, whatever its context, leaves the same results. -/
theorem State.SameInputs.complete {s t : State} (h : s.SameInputs t) (u : State) (o : CmdOutcome) :
    (s.complete o).SameResults (t.complete (o.withContext u)) := by
  cases o with
  | ok v => exact ⟨State.SameInputs.refl v, rfl, rfl, rfl, rfl⟩
  | fail e c => exact ⟨h, rfl, rfl, rfl, rfl⟩

/-- The same command with the same inputs ends with the same results. -/
theorem sameResults_of_sameInputs {s s' t t' : State} (hc : s.NextIsComplete) (hc' : s'.NextIsComplete) (h : s.SameInputs s')
    (hs : step s = .next t) (hs' : step s' = .next t') : t.SameResults t' := by
  have hpend : s'.pend = s.pend := by
    obtain ⟨-, -, -, -, -, -, -, -, -, -, hp, -⟩ := h
    exact hp
  have hdrop : s.dropMove.SameInputs s'.dropMove := h
  obtain ⟨o, ho, ho'⟩ := exec_command_withContext (decodeCmd_isCommand s.pend) s.dropMove s'.dropMove
  rw [← hdrop.eq_withContext] at ho'
  rw [step_of_complete hc, ho] at hs
  rw [step_of_complete hc', hpend, ho'] at hs'
  cases hs
  cases hs'
  exact hdrop.complete _ o

/-! ### Runs -/

theorem run_succ_of_step {M : Host.Core} {s t : M.State} (h : M.step s = .next t) (k : Nat) : M.run (k + 1) s = M.run k t := by
  rw [Host.Core.run, h]

theorem run_one {M : Host.Core} (s : M.State) : M.run 1 s = M.step s := by
  rw [Host.Core.run]
  cases M.step s <;> rfl

/-- A run of one step is a step. -/
theorem run_core_one (s : State) : Host.Core.run core 1 s = step s := run_one (M := core) s

/-- Any host transactions while `BUSY = 1`: the command is still in flight after them, with its inputs. -/
theorem run_host_of_busy {s : State} {ts : List Transaction} {l : List Move} (hb : s.busy = true)
    (h : s.sched = ts.map .host ++ l) : ∃ t, (∀ k, Host.Core.run core (k + ts.length) s = Host.Core.run core k t) ∧
      s.SameInputs t ∧ t.busy = true ∧ t.sched = l := by
  induction ts generalizing s with
  | nil => exact ⟨s, fun _ => rfl, .refl s, hb, h⟩
  | cons tr ts ih =>
    obtain ⟨u, hstep, hin, hbusy, hsched⟩ := step_host_of_busy hb h
    obtain ⟨t, hrun, hin', hbusy', hsched'⟩ := ih hbusy hsched
    exact ⟨t, fun k => (run_succ_of_step (M := core) hstep _).trans (hrun k), hin.trans hin', hbusy', hsched'⟩

/-- Settles O59: the transactions keep the inputs of the command, and its results are a function of them. -/
theorem latencyDoesNotChangeResults : Obligations.LatencyDoesNotChangeResults := by
  intro s t u ts hb hnow hlater
  obtain ⟨v, hrun, hin, hbusy, hsched⟩ := run_host_of_busy (s := { s with sched := ts.map .host ++ [.seq] }) hb rfl
  rw [Nat.add_comm, hrun] at hlater
  have hfirst : step { s with sched := [.seq] } = .next t := (run_core_one _).symm.trans hnow
  have hlast : step v = .next u := (run_core_one v).symm.trans hlater
  have hcomplete : State.NextIsComplete { s with sched := [.seq] } := ⟨hb, .inr ⟨[], rfl⟩⟩
  exact sameResults_of_sameInputs hcomplete ⟨hbusy, .inr ⟨[], hsched⟩⟩ hin hfirst hlast

theorem step_of_complete_retires {s : State} (h : s.NextIsComplete) : ∃ t, step s = .next t ∧ t.busy = false ∧ t.done = true := by
  have hi := decodeCmd_isCommand s.pend
  obtain ⟨o, ho, -⟩ := exec_command (decodeCmd s.pend) s.dropMove hi
  exact ⟨_, (step_of_complete h).trans ho, (commandEffect_of_exec hi ho).retired⟩

/-- A command in flight completes at the sequencer's first turn, or when the moves have run out. -/
theorem run_completes {s : State} {l : List Move} (hs : s.sched = l) (hb : s.busy = true) (hr : .rst ∉ l) :
    ∃ k t, k ≤ l.length + 1 ∧ Host.Core.run core k s = .next t ∧ t.busy = false ∧ t.done = true := by
  induction l generalizing s with
  | nil =>
    obtain ⟨t, ht, hend⟩ := step_of_complete_retires ⟨hb, .inl hs⟩
    exact ⟨1, t, by simp, (run_core_one s).trans ht, hend⟩
  | cons m l ih =>
    rw [List.mem_cons, not_or] at hr
    obtain ⟨hm, hl⟩ := hr
    cases m with
    | host tr =>
      obtain ⟨u, hstep, -, hbusy, hsched⟩ := step_host_of_busy hb hs
      obtain ⟨k, t, hk, hrun, hend⟩ := ih hsched hbusy hl
      exact ⟨k + 1, t, by simpa using hk, (run_succ_of_step (M := core) hstep k).trans hrun, hend⟩
    | rst => exact absurd rfl hm
    | seq =>
      obtain ⟨t, ht, hend⟩ := step_of_complete_retires ⟨hb, .inr ⟨l, hs⟩⟩
      exact ⟨1, t, by simp, (run_core_one s).trans ht, hend⟩

/-- Settles O60: by induction on the moves to come. -/
theorem acceptedCommandCompletesUnlessReset : Obligations.AcceptedCommandCompletesUnlessReset :=
  fun _ hb hr => run_completes rfl hb hr

end Sys2Proof.Machine
end

section
/-! PROOFS. The encoder and the decoder are inverse to each other, so which word stands for a command follows from its encoding; and what
every `Complete` step has in common. -/

namespace Sys2Proof.Machine

open Sys2Proof

/-! ### Decoding an encoding -/

/-- The rows of an aligned offset, region by region (20_memory R61, R66). -/
theorem decodeBus_addressOf {off : Offset} (h : off.toNat % 4 = 0) (w : Word) :
    (0x40 ≤ off.toNat → decodeBus ⟨false, addressOf 0 off, w⟩ = .rdRegReserved off ∧
      decodeBus ⟨true, addressOf 0 off, w⟩ = .wrRegReserved off w) ∧
    (decodeBus ⟨false, addressOf 1 off, w⟩ = .rdIbuf off ∧ decodeBus ⟨true, addressOf 1 off, w⟩ = .wrIbuf off w) ∧
    (decodeBus ⟨false, addressOf 2 off, w⟩ = .rdChdata off ∧ decodeBus ⟨true, addressOf 2 off, w⟩ = .wrChdata off w) ∧
    (decodeBus ⟨false, addressOf 3 off, w⟩ = .rdObuf off ∧ decodeBus ⟨true, addressOf 3 off, w⟩ = .wrObuf off w) := by
  have halign (r : BitVec 2) : ¬Misaligned (addressOf r off) := by
    simp only [Misaligned, addressOf_toNat]
    omega
  have hregion (r : BitVec 2) : regionOf (addressOf r off) = r.toNat := by
    simp only [regionOf, addressOf_toNat]
    omega
  have hoff (r : BitVec 2) : offsetOf (addressOf r off) = off.toNat := by
    simp only [offsetOf, addressOf_toNat]
    omega
  have hmap (r : BitVec 2) := registerMapDecodes.1 (addressOf r off) w (halign r)
  simp only [hregion, hoff, BitVec.ofNat_toNat, BitVec.setWidth_eq] at hmap
  exact ⟨(hmap 0).1 rfl, (hmap 1).2.1 rfl, (hmap 2).2.2.1 rfl, (hmap 3).2.2.2 rfl⟩

theorem decodeCmd_of_not_legal {w : Word} (h : ¬(1 ≤ w.toNat ∧ w.toNat ≤ 9)) : decodeCmd w = .illegalCmd w := by
  rcases decodeCmd_cases w with
    ⟨rfl, _⟩ | ⟨rfl, _⟩ | ⟨rfl, _⟩ | ⟨rfl, _⟩ | ⟨rfl, _⟩ | ⟨rfl, _⟩ | ⟨rfl, _⟩ | ⟨rfl, _⟩ | ⟨rfl, _⟩ | ⟨_, e⟩
  case inr.inr.inr.inr.inr.inr.inr.inr.inr => exact e
  all_goals exact absurd (by decide) h

theorem illegalCmd_wellFormed_iff {w : Word} : (Instr.illegalCmd w).WellFormed ↔ ¬(1 ≤ w.toNat ∧ w.toNat ≤ 9) := by
  simp only [Instr.WellFormed, Instr.wellFormed, Bool.not_eq_true', Bool.and_eq_false_iff, decide_eq_false_iff_not, not_and_or]

/-- The check of a reserved register offset (20_memory R66). -/
theorem aligned_and_reserved_iff {off : Offset} :
    (off.toNat % 4 == 0 && decide (0x40 ≤ off.toNat)) = true ↔ off.toNat % 4 = 0 ∧ 0x40 ≤ off.toNat := by
  simp

/-- Settles O1: the decoder computes the nine fixed words; a register row stands at the register's offset, and every other row at its
operand, by the check that its well-formedness makes. -/
theorem decodeOfEncodeIsIdentity : Obligations.DecodeOfEncodeIsIdentity := by
  intro i h
  have hmisaligned (a w : Word) := registerMapDecodes.2.1 a w
  have hread (r : Reg) : decode (.bus ⟨false, addressOf 0 r.offset, 0⟩) = r.readRow := (decodeBus_register r 0).1
  have hwrite (r : Reg) (w : Word) : decode (.bus ⟨true, addressOf 0 r.offset, w⟩) = r.writeRow w := (decodeBus_register r w).2
  cases i
  case illegalCmd w => exact decodeCmd_of_not_legal (illegalCmd_wellFormed_iff.mp h)
  case rdMisaligned1 a => exact ((hmisaligned a 0).1 (eq_of_beq h)).1
  case rdMisaligned2 a => exact ((hmisaligned a 0).2.1 (eq_of_beq h)).1
  case rdMisaligned3 a => exact ((hmisaligned a 0).2.2 (eq_of_beq h)).1
  case wrMisaligned1 a w => exact ((hmisaligned a w).1 (eq_of_beq h)).2
  case wrMisaligned2 a w => exact ((hmisaligned a w).2.1 (eq_of_beq h)).2
  case wrMisaligned3 a w => exact ((hmisaligned a w).2.2 (eq_of_beq h)).2
  case rdId | rdParam | rdCtrl | rdStatus | rdCmd | rdTypeIn | rdIbufLen | rdTag | rdTagFlags | rdChType | rdChFlags | rdChLen |
      rdChCrc | rdObufLen | rdCrcAcc | rdCrcValue => exact hread _
  case wrId w | wrParam w | wrCtrl w | wrStatus w | wrCmd w | wrTypeIn w | wrIbufLen w | wrTag w | wrTagFlags w | wrChType w |
      wrChFlags w | wrChLen w | wrChCrc w | wrObufLen w | wrCrcAcc w | wrCrcValue w => exact hwrite _ w
  case rdRegReserved off =>
    obtain ⟨h4, h40⟩ := aligned_and_reserved_iff.mp h
    exact ((decodeBus_addressOf h4 0).1 h40).1
  case wrRegReserved off w =>
    obtain ⟨h4, h40⟩ := aligned_and_reserved_iff.mp h
    exact ((decodeBus_addressOf h4 w).1 h40).2
  case rdIbuf off =>
    obtain ⟨-, hibuf, -, -⟩ := decodeBus_addressOf (eq_of_beq h) 0
    exact hibuf.1
  case wrIbuf off w =>
    obtain ⟨-, hibuf, -, -⟩ := decodeBus_addressOf (eq_of_beq h) w
    exact hibuf.2
  case rdChdata off =>
    obtain ⟨-, -, hchdata, -⟩ := decodeBus_addressOf (eq_of_beq h) 0
    exact hchdata.1
  case wrChdata off w =>
    obtain ⟨-, -, hchdata, -⟩ := decodeBus_addressOf (eq_of_beq h) w
    exact hchdata.2
  case rdObuf off =>
    obtain ⟨-, -, -, hobuf⟩ := decodeBus_addressOf (eq_of_beq h) 0
    exact hobuf.1
  case wrObuf off w =>
    obtain ⟨-, -, -, hobuf⟩ := decodeBus_addressOf (eq_of_beq h) w
    exact hobuf.2
  all_goals rfl

/-! ### Encoding what was decoded -/

theorem decodeCmd_wellFormed_and_encode (w : Word) : (decodeCmd w).WellFormed ∧ encode (decodeCmd w) = .cmd w := by
  rcases decodeCmd_cases w with
    ⟨rfl, e⟩ | ⟨rfl, e⟩ | ⟨rfl, e⟩ | ⟨rfl, e⟩ | ⟨rfl, e⟩ | ⟨rfl, e⟩ | ⟨rfl, e⟩ | ⟨rfl, e⟩ | ⟨rfl, e⟩ | ⟨h, e⟩ <;> rw [e]
  case inr.inr.inr.inr.inr.inr.inr.inr.inr => exact ⟨illegalCmd_wellFormed_iff.mpr h, rfl⟩
  all_goals exact ⟨rfl, rfl⟩

/-- The kinds of address, each by the operand of its rows (30_encoding R96). -/
theorem address_forms (a : Word) :
    a.toNat % 4 = 1 ∨ a.toNat % 4 = 2 ∨ a.toNat % 4 = 3 ∨ (∃ r : Reg, a = addressOf 0 r.offset) ∨
    ∃ off : Offset, off.toNat % 4 = 0 ∧
      ((0x40 ≤ off.toNat ∧ a = addressOf 0 off) ∨ a = addressOf 1 off ∨ a = addressOf 2 off ∨ a = addressOf 3 off) := by
  have ha := addressOf_regionBits_offsetBits a
  have hoff (h : a.toNat % 4 = 0) : (offsetBits a).toNat % 4 = 0 := by
    rw [offsetBits_toNat]
    omega
  rcases address_cases a with
    ⟨h, _⟩ | ⟨h, _⟩ | ⟨h, _⟩ | ⟨h, _, ⟨r, hr, _⟩ | ⟨_, h40, hr, _⟩ | ⟨_, hr⟩ | ⟨_, hr⟩ | ⟨_, hr⟩⟩
  case inr.inr.inr.inl => exact .inr (.inr (.inr (.inl ⟨r, hr⟩)))
  case inl => exact .inl h
  case inr.inl => exact .inr (.inl h)
  case inr.inr.inl => exact .inr (.inr (.inl h))
  all_goals
    rw [hr] at ha
    refine .inr (.inr (.inr (.inr ⟨offsetBits a, hoff h, ?_⟩)))
  · exact .inl ⟨by rwa [offsetBits_toNat], ha.symm⟩
  · exact .inr (.inl ha.symm)
  · exact .inr (.inr (.inl ha.symm))
  · exact .inr (.inr (.inr ha.symm))

/-- Every read, its unused data word 0, is the encoding of a well-formed row. -/
theorem exists_encode_eq_read (a : Word) : ∃ i : Instr, i.WellFormed ∧ encode i = .bus ⟨false, a, 0⟩ := by
  rcases address_forms a with h | h | h | ⟨r, rfl⟩ | ⟨off, h4, ⟨h40, rfl⟩ | rfl | rfl | rfl⟩
  · exact ⟨.rdMisaligned1 a, beq_of_eq h, rfl⟩
  · exact ⟨.rdMisaligned2 a, beq_of_eq h, rfl⟩
  · exact ⟨.rdMisaligned3 a, beq_of_eq h, rfl⟩
  · exact ⟨r.readRow, by cases r <;> exact ⟨rfl, rfl⟩⟩
  · exact ⟨.rdRegReserved off, aligned_and_reserved_iff.mpr ⟨h4, h40⟩, rfl⟩
  · exact ⟨.rdIbuf off, beq_of_eq h4, rfl⟩
  · exact ⟨.rdChdata off, beq_of_eq h4, rfl⟩
  · exact ⟨.rdObuf off, beq_of_eq h4, rfl⟩

/-- Every write is the encoding of a well-formed row. -/
theorem exists_encode_eq_write (a w : Word) : ∃ i : Instr, i.WellFormed ∧ encode i = .bus ⟨true, a, w⟩ := by
  rcases address_forms a with h | h | h | ⟨r, rfl⟩ | ⟨off, h4, ⟨h40, rfl⟩ | rfl | rfl | rfl⟩
  · exact ⟨.wrMisaligned1 a w, beq_of_eq h, rfl⟩
  · exact ⟨.wrMisaligned2 a w, beq_of_eq h, rfl⟩
  · exact ⟨.wrMisaligned3 a w, beq_of_eq h, rfl⟩
  · exact ⟨r.writeRow w, by cases r <;> exact ⟨rfl, rfl⟩⟩
  · exact ⟨.wrRegReserved off w, aligned_and_reserved_iff.mpr ⟨h4, h40⟩, rfl⟩
  · exact ⟨.wrIbuf off w, beq_of_eq h4, rfl⟩
  · exact ⟨.wrChdata off w, beq_of_eq h4, rfl⟩
  · exact ⟨.wrObuf off w, beq_of_eq h4, rfl⟩

/-- What is the encoding of a well-formed instruction decodes to one, and is its encoding. -/
theorem wellFormed_and_encode_decode {f : Form} (h : ∃ i : Instr, i.WellFormed ∧ encode i = f) :
    (decode f).WellFormed ∧ encode (decode f) = f := by
  obtain ⟨i, hi, rfl⟩ := h
  rw [decodeOfEncodeIsIdentity i hi]
  exact ⟨hi, rfl⟩

/-- Settles O2: each word, write and read is the encoding of a well-formed instruction, which decoding gives back; a read is decoded
without its data. -/
theorem decodingIsWellFormedAndLosesNothing : Obligations.DecodingIsWellFormedAndLosesNothing := by
  have hread (a : Word) := wellFormed_and_encode_decode (exists_encode_eq_read a)
  have hwrite (a w : Word) := wellFormed_and_encode_decode (exists_encode_eq_write a w)
  refine ⟨fun f => ?_, fun w => (decodeCmd_wellFormed_and_encode w).2, fun a w => (hwrite a w).2, fun a w => (hread a).2⟩
  match f with
  | .cmd w => exact (decodeCmd_wellFormed_and_encode w).1
  | .bus ⟨false, a, _⟩ => exact (hread a).1
  | .bus ⟨true, a, w⟩ => exact (hwrite a w).1

/-! ### The command words -/

/-- A word stands for the command that is encoded as it. -/
theorem decodeCmd_eq_iff {w v : Word} {i : Instr} (hi : i.WellFormed) (hv : encode i = .cmd v) : decodeCmd w = i ↔ w = v := by
  constructor
  · rintro rfl
    rw [(decodeCmd_wellFormed_and_encode w).2] at hv
    exact Form.cmd.inj hv
  · rintro rfl
    have hid := decodeOfEncodeIsIdentity i hi
    rwa [hv] at hid

/-- The two fields of a word by its number: it is legal exactly when it is 1 to 9 (30_encoding R94). -/
theorem legal_iff (w : Word) :
    (w.extractLsb' 8 24 = 0#24 ∧ 0x01#8 ≤ w.extractLsb' 0 8 ∧ w.extractLsb' 0 8 ≤ 0x09#8) ↔ 1 ≤ w.toNat ∧ w.toNat ≤ 9 := by
  simp only [← BitVec.toNat_inj, BitVec.le_def, BitVec.extractLsb'_toNat, Nat.shiftRight_eq_div_pow, BitVec.toNat_ofNat]
  omega

/-- Settles O3: an illegal word is one whose number is not 1 to 9, and each command has the one word it is encoded as. -/
theorem commandWordSelectsExactlyOneCommand : Obligations.CommandWordSelectsExactlyOneCommand := by
  refine ⟨fun w => ?_, fun w v h => ?_, fun _ => decodeCmd_eq_iff rfl rfl, fun _ => decodeCmd_eq_iff rfl rfl,
    fun _ => decodeCmd_eq_iff rfl rfl, fun _ => decodeCmd_eq_iff rfl rfl, fun _ => decodeCmd_eq_iff rfl rfl,
    fun _ => decodeCmd_eq_iff rfl rfl, fun _ => decodeCmd_eq_iff rfl rfl, fun _ => decodeCmd_eq_iff rfl rfl,
    fun _ => decodeCmd_eq_iff rfl rfl⟩
  · rw [legal_iff]
    exact or_iff_not_imp_left.mpr decodeCmd_of_not_legal
  · obtain ⟨hwf, henc⟩ := decodeCmd_wellFormed_and_encode w
    rw [h] at hwf henc
    obtain rfl : v = w := Form.cmd.inj henc
    exact ⟨rfl, (legal_iff v).not.mpr (illegalCmd_wellFormed_iff.mp hwf)⟩

/-- Settles O4: the decoder computes each of them. -/
theorem specWordsDecodeToTheirInstructions : Obligations.SpecWordsDecodeToTheirInstructions := by
  unfold Obligations.SpecWordsDecodeToTheirInstructions
  decide

/-! ### The `Complete` step -/

/-- Settles O42: such a word is not one of the legal ones; the rest is the acceptance of any word and the meaning of the row. -/
theorem illegalWordCompletesWithIllegalCmd : Obligations.IllegalWordCompletesWithIllegalCmd := by
  refine fun w s => ⟨fun h => decodeCmd_of_not_legal ?_, fun hb => ?_, rfl⟩
  · rw [← legal_iff]
    rintro ⟨hrsvd, hlow, hhigh⟩
    rcases h with h | h | h
    · exact h hrsvd
    · rw [h] at hlow
      exact absurd hlow (by decide)
    · exact absurd (BitVec.le_trans h hhigh) (by decide)
  · rw [exec_wrCmd, State.unlessBusy_of_idle hb, State.accept]

/-- Settles O43: a command that fails only retires with its codes, and one that does not fail retires with OK and NONE. -/
theorem failedCommandChangesOnlyTheStatus : Obligations.FailedCommandChangesOnlyTheStatus := by
  intro i s hi
  obtain ⟨o, h, -, hfail⟩ := exec_command i s hi
  cases o with
  | ok t => exact ⟨_, h, rfl, rfl, fun herr => absurd rfl herr, fun _ => rfl⟩
  | fail e c => exact ⟨_, h, rfl, rfl, fun _ => rfl, fun herr => absurd herr (hfail e c rfl).1⟩

end Sys2Proof.Machine
end

section
/-! PROOFS. The tag decoder: letters by their values, the flag word bit by bit, and the two commands that load `TAG`. -/

namespace Sys2Proof.Machine

open Sys2Proof

/-! ### Letters -/

/-- The test of a byte is the range of its value (40_tag_decoder R118). -/
theorem letter_iff (b : Byte) : letter b = true ↔ IsLetter b.toNat := by
  simp only [letter, IsLetter, BitVec.le_def, BitVec.toNat_ofNat, Bool.or_eq_true, Bool.and_eq_true, decide_eq_true_eq,
    Nat.reduceMod, Nat.reducePow]

theorem alpha_iff (t : List Byte) : alpha t = true ↔ ∀ b ∈ t, IsLetter b.toNat := by
  simp only [alpha, List.all_eq_true, letter_iff]

/-- The four bytes of a tag word by value, first byte highest. -/
theorem alpha_bytesBe32_iff (v : Word) :
    alpha (bytesBe32 v) = true ↔ IsLetter (v.toNat / 2 ^ 24) ∧ IsLetter (v.toNat / 2 ^ 16 % 2 ^ 8) ∧
      IsLetter (v.toNat / 2 ^ 8 % 2 ^ 8) ∧ IsLetter (v.toNat % 2 ^ 8) := by
  have htop : v.toNat / 2 ^ 24 % 2 ^ 8 = v.toNat / 2 ^ 24 := by omega
  simp only [alpha_iff, bytesBe32, List.forall_mem_cons, List.not_mem_nil, false_imp_iff, forall_const, and_true,
    BitVec.extractLsb'_toNat, Nat.shiftRight_eq_div_pow, htop, pow_zero, Nat.div_one]

theorem alpha_ibufBytes_iff (s : State) (n : Nat) : alpha (s.ibufBytes n) = true ↔ ∀ i, i < n → IsLetter (s.ibufByte i).toNat := by
  simp only [alpha_iff, State.ibufBytes, List.forall_mem_map, List.mem_range]

/-! ### The flag word -/

/-- The case bits of a tag word: bit 5 of each byte, first byte highest (00_scope R9). -/
theorem caseBit_bytesBe32 (v : Word) :
    caseBit (bytesBe32 v) 0 = v.getLsbD 29 ∧ caseBit (bytesBe32 v) 1 = v.getLsbD 21 ∧
    caseBit (bytesBe32 v) 2 = v.getLsbD 13 ∧ caseBit (bytesBe32 v) 3 = v.getLsbD 5 := by
  simp [caseBit, bytesBe32]

/-- Each flag stands at its bit, and the other bits are 0 (40_tag_decoder R116). -/
theorem getLsbD_tagFlags (v : Word) :
    (tagFlags v).getLsbD 0 = critical (bytesBe32 v) ∧ (tagFlags v).getLsbD 1 = isPublic (bytesBe32 v) ∧
    (tagFlags v).getLsbD 2 = reservedValid (bytesBe32 v) ∧ (tagFlags v).getLsbD 3 = safeToCopy (bytesBe32 v) ∧
    (tagFlags v).getLsbD 4 = tagValid (bytesBe32 v) ∧ (tagFlags v).getLsbD 5 = alpha (bytesBe32 v) ∧
    ∀ i, 6 ≤ i → (tagFlags v).getLsbD i = false := by
  have hword (i : Nat) := congrArg (BitVec.getLsbD · i) (tagFlags.eq_1 v)
  simp only [BitVec.getLsbD_setWidth] at hword
  have hbit := hword
  simp only [BitVec.getLsbD_append, BitVec.getLsbD_ofBool] at hbit
  refine ⟨hbit 0, hbit 1, hbit 2, hbit 3, hbit 4, hbit 5, fun i hi => ?_⟩
  rw [hword, BitVec.getLsbD_of_ge _ i hi, Bool.and_false]

/-- Settles O23: the flags by their bits, each the case bit of its byte, and the letters by value; the two registers are read rows. -/
theorem tagFlagsDecodeTheCaseBits : Obligations.TagFlagsDecodeTheCaseBits := by
  refine ⟨fun v => ?_, fun s => ⟨exec_readRow .tagFlags s, exec_readRow .chFlags s⟩⟩
  obtain ⟨hcritical, hpublic, hreserved, hsafe, hvalid, halpha, hrest⟩ := getLsbD_tagFlags v
  obtain ⟨h0, h1, h2, h3⟩ := caseBit_bytesBe32 v
  refine ⟨?_, ?_, ?_, ?_, ?_, ?_, hrest⟩
  · rw [hcritical, critical, h0]
  · rw [hpublic, isPublic, h1]
  · rw [hreserved, reservedValid, h2]
  · rw [hsafe, safeToCopy, h3]
  · rw [hvalid, tagValid, reservedValid, h2]
  · rw [halpha, alpha_bytesBe32_iff]

/-! ### The commands -/

theorem exec_typeFromBytes (s : State) : exec .typeFromBytes s = .next (State.retire { s with tag := s.typeIn } .ok .none) := rfl
theorem exec_typeFromText (s : State) : exec .typeFromText s = .next (s.complete (typeFromText s)) := rfl

/-- Settles O24: the body has no condition, so the `Complete` step always commits the copy. -/
theorem typeFromBytesCopiesTypeIn : Obligations.TypeFromBytesCopiesTypeIn :=
  ⟨rfl, exec_typeFromBytes, by decide⟩

/-- Settles O25: each of the three answers of the body stands under the condition of its own clause and contradicts the other two. -/
theorem typeFromTextTakesFourLetters : Obligations.TypeFromTextTakesFourLetters := by
  refine ⟨rfl, fun s => ?_⟩
  have hletters := alpha_ibufBytes_iff s 4
  rw [exec_typeFromText]
  rcases typeFromText_cases s with ⟨hlen, e⟩ | ⟨hlen, halpha, e⟩ | ⟨hlen, halpha, e⟩ <;> rw [e]
  · exact ⟨fun _ => rfl, fun h => absurd h hlen, fun h => absurd h hlen⟩
  · exact ⟨absurd hlen, fun _ _ => rfl, fun _ hall => absurd (hletters.mpr hall) (Bool.eq_false_iff.mp halpha)⟩
  · exact ⟨absurd hlen, fun _ ⟨i, hi, hno⟩ => absurd (hletters.mp halpha i hi) hno, fun _ _ => rfl⟩

end Sys2Proof.Machine
end

section
/-! PROOFS. The CRC generator: the bit loop read bit by bit, which makes it linear and injective; from these the table form and the
detection of one flipped bit. Then the two commands of the generator. -/

namespace Sys2Proof.Machine

open Sys2Proof

/-! ### The bit loop -/

/-- Bit by bit, an iteration is a shift that adds the polynomial where the bit shifted out was set (41_crc32 R141). -/
theorem getLsbD_crcBit (c : Word) (i : Nat) :
    (crcBit c).getLsbD i = (c.getLsbD (1 + i) ^^ (c.getLsbD 0 && (0xEDB88320#32).getLsbD i)) := by
  unfold crcBit
  cases h : c.getLsbD 0 <;> simp

theorem crcBit_xor (a b : Word) : crcBit (a ^^^ b) = crcBit a ^^^ crcBit b := by
  refine BitVec.eq_of_getLsbD_eq fun i _ => ?_
  simp only [getLsbD_crcBit, BitVec.getLsbD_xor, Bool.and_xor_distrib_right, Bool.xor_assoc, Bool.xor_left_comm]

/-- Bit 31 of the polynomial is set, so bit 31 of the result tells the bit shifted out, and the other bits can be read back. -/
theorem crcBit_injective : Function.Injective crcBit := by
  intro a b h
  have hbit (i : Nat) := congrArg (BitVec.getLsbD · i) h
  simp only [getLsbD_crcBit] at hbit
  have hlow : a.getLsbD 0 = b.getLsbD 0 := by simpa using hbit 31
  refine BitVec.eq_of_getLsbD_eq fun i _ => ?_
  cases i with
  | zero => exact hlow
  | succ i =>
    have hnext := hbit i
    rw [hlow, Bool.xor_left_inj, Nat.add_comm] at hnext
    exact hnext

theorem crcBits_xor (n : Nat) (a b : Word) : crcBits n (a ^^^ b) = crcBits n a ^^^ crcBits n b := by
  induction n generalizing a b with
  | zero => rfl
  | succ n ih => rw [crcBits, crcBit_xor, ih]; rfl

theorem crcBits_injective (n : Nat) : Function.Injective (crcBits n) := by
  induction n with
  | zero => exact fun _ _ h => h
  | succ n ih => exact ih.comp crcBit_injective

/-- The iterations as a fold over any list with one element for each. -/
theorem crcBits_length {α : Type} (l : List α) (c : Word) : crcBits l.length c = l.foldl (fun r _ => crcBit r) c := by
  induction l generalizing c with
  | nil => rfl
  | cons _ l ih => exact ih (crcBit c)

/-- While the bits shifted out are 0, the polynomial is never added. -/
theorem crcBits_of_low_zero {n : Nat} {c : Word} (h : ∀ i, i < n → c.getLsbD i = false) : crcBits n c = c >>> n := by
  induction n generalizing c with
  | zero => rfl
  | succ n ih =>
    have hbit : crcBit c = c >>> 1 := by
      rw [crcBit, h 0 n.succ_pos, if_neg Bool.false_ne_true]
    have hlow (i : Nat) (hi : i < n) : (c >>> 1).getLsbD i = false := by
      rw [BitVec.getLsbD_ushiftRight]
      exact h (1 + i) (by omega)
    rw [crcBits, hbit, ih hlow, ← BitVec.shiftRight_add, Nat.add_comm]

/-! ### The table form -/

theorem setWidth_ushiftRight_eight (b : Byte) : (b.setWidth 32 : Word) >>> 8 = 0#32 := by
  refine BitVec.eq_of_getLsbD_eq fun i _ => ?_
  rw [BitVec.getLsbD_ushiftRight, BitVec.getLsbD_setWidth, BitVec.getLsbD_of_ge b (8 + i) (Nat.le_add_right 8 i), Bool.and_false,
    BitVec.getLsbD_zero]

/-- Eight iterations move the three high bytes down and replace the low byte by its table entry (41_crc32 R142): the loop is linear,
and the part of the word above its low byte is only shifted. -/
theorem crcBits_eight {x : Word} {b : Byte} (h : ∀ i, i < 8 → x.getLsbD i = b.getLsbD i) :
    crcBits 8 x = (x >>> 8) ^^^ crcTable b := by
  have hlow (i : Nat) (hi : i < 8) : (x ^^^ b.setWidth 32).getLsbD i = false := by
    rw [BitVec.getLsbD_xor, h i hi, BitVec.getLsbD_setWidth, decide_eq_true (show i < 32 by omega), Bool.true_and, Bool.xor_self]
  have hhigh : crcBits 8 (x ^^^ b.setWidth 32) = x >>> 8 := by
    rw [crcBits_of_low_zero hlow, BitVec.ushiftRight_xor_distrib, setWidth_ushiftRight_eight, BitVec.xor_zero]
  rw [← hhigh, crcBits_xor, crcTable, BitVec.xor_assoc, BitVec.xor_self, BitVec.xor_zero]

theorem crcStep_eq_table (c : Word) (b : Byte) :
    crcStep c b = (c >>> 8) ^^^ crcTable ((c ^^^ b.setWidth 32).extractLsb' 0 8) := by
  have hbyte (i : Nat) (hi : i < 8) :
      (c ^^^ b.setWidth 32).getLsbD i = ((c ^^^ b.setWidth 32).extractLsb' 0 8).getLsbD i := by
    rw [BitVec.getLsbD_extractLsb', decide_eq_true hi, Bool.true_and, Nat.zero_add]
  rw [crcStep, crcBits_eight hbyte, BitVec.ushiftRight_xor_distrib, setWidth_ushiftRight_eight, BitVec.xor_zero]

/-- Settles O29: the loop as a fold, the table form from the loop's linearity, and the listed entries and check value by running it. -/
theorem crcTableFormAgrees : Obligations.CrcTableFormAgrees := by
  refine ⟨fun c b => crcBits_length (List.range 8) _, crcStep_eq_table, fun _ => rfl, ?_⟩
  decide +kernel

/-! ### Detection of one flipped bit -/

theorem crcStep_left_injective (b : Byte) : Function.Injective (crcStep · b) :=
  fun _ _ h => (BitVec.xor_left_inj _).mp (crcBits_injective 8 h)

theorem crcStep_right_injective (c : Word) : Function.Injective (crcStep c) := by
  intro b d h
  have hwide : (b.setWidth 32 : Word) = d.setWidth 32 := (BitVec.xor_right_inj _).mp (crcBits_injective 8 h)
  simpa using congrArg (BitVec.setWidth 8) hwide

theorem crcRun_injective (s : List Byte) : Function.Injective (crcRun · s) := by
  induction s with
  | nil => exact fun _ _ h => h
  | cons b s ih => exact ih.comp (crcStep_left_injective b)

theorem xor_one_shiftLeft_ne {k : Nat} (b : Byte) (hk : k < 8) : b ^^^ (1#8 <<< k) ≠ b := by
  intro h
  have hbit := congrArg (BitVec.getLsbD · k) h
  simp [hk] at hbit

/-- The register differs after the changed byte, and the bytes that follow keep two different registers different. -/
theorem crcRun_flipBit_ne {k : Nat} (hk : k < 8) {s : List Byte} {i : Nat} (hi : i < s.length) (c : Word) :
    crcRun c (flipBit s i k) ≠ crcRun c s := by
  induction s generalizing i c with
  | nil => exact absurd hi (Nat.not_lt_zero i)
  | cons b s ih =>
    cases i with
    | zero => exact fun h => xor_one_shiftLeft_ne b hk (crcStep_right_injective c (crcRun_injective s h))
    | succ i => exact ih (Nat.lt_of_succ_lt_succ hi) (crcStep c b)

/-- Settles O30: the final XOR keeps the two different registers different. -/
theorem crcDetectsEverySingleBitError : Obligations.CrcDetectsEverySingleBitError :=
  fun _ _ _ hi hk h => crcRun_flipBit_ne hk hi _ ((BitVec.xor_left_inj _).mp h)

/-! ### The commands -/

theorem exec_crcClear (s : State) : exec .crcClear s = .next (State.retire { s with crcAcc := 0xFFFFFFFF } .ok .none) := rfl
theorem exec_crcAccum (s : State) : exec .crcAccum s = .next (s.complete (crcAccum s)) := rfl

/-- Settles O26: the body has no condition, and the initial value XOR the final one is 0. -/
theorem crcClearSetsTheInitialValue : Obligations.CrcClearSetsTheInitialValue :=
  ⟨rfl, fun s => ⟨exec_crcClear s, BitVec.xor_self⟩⟩

/-- Settles O27: each answer of the body stands under the condition of its own clause and contradicts the other. -/
theorem crcAccumFeedsIbuf : Obligations.CrcAccumFeedsIbuf := by
  refine ⟨rfl, fun _ => rfl, fun _ _ _ => rfl, fun s => ?_⟩
  rw [exec_crcAccum, ← ibufBytes_eq_ibufSlice]
  rcases crcAccum_cases s with ⟨hcap, e⟩ | ⟨hfit, e⟩ <;> rw [e]
  · exact ⟨fun hle => absurd hle hcap.not_ge, fun _ => rfl⟩
  · exact ⟨fun _ => rfl, fun hlt => absurd hlt hfit.not_gt⟩

theorem crcRun_append (c : Word) (p d : List Byte) : crcRun c (p ++ d) = crcRun (crcRun c p) d := List.foldl_append

/-- Settles O28: the register after the command is the one that feeding `p` and then the piece leaves, by the fold over an append. -/
theorem crcChainsAcrossPieces : Obligations.CrcChainsAcrossPieces := by
  intro s p hacc hfit
  have hchain : crcRun s.crcAcc (s.ibufSlice 0 s.ibufLen.toNat) = crcRun 0xFFFFFFFF#32 (p ++ s.ibufSlice 0 s.ibufLen.toNat) := by
    rw [hacc, crcRun_append]
  obtain ⟨-, -, -, haccum⟩ := crcAccumFeedsIbuf
  obtain ⟨hok, -⟩ := haccum s
  exact ⟨_, hok hfit, congrArg (· ^^^ 0xFFFFFFFF#32) hchain, hchain⟩

end Sys2Proof.Machine
end

section
/-! PROOFS. The framer and the deframer are inverse to each other: what `deframe` accepts is exactly a frame with its own length and CRC.
So a command's frame is followed through the buffers as one string. -/

namespace Sys2Proof.Machine

open Sys2Proof

/-! ### Slices -/

theorem getElem?_slice {b : List Byte} {i j k : Nat} : (slice b i j)[k]? = if k < j - i then b[i + k]? else none := by
  rw [slice, List.getElem?_take, List.getElem?_drop]

/-- Two slices that meet are one slice. -/
theorem slice_append_slice {b : List Byte} {i j k : Nat} (hij : i ≤ j) (hjk : j ≤ k) :
    slice b i j ++ slice b j k = slice b i k := by
  have hfirst : slice b i j = (slice b i k).take (j - i) := by
    rw [slice, slice, List.take_take, Nat.min_eq_left (Nat.sub_le_sub_right hjk i)]
  have hsecond : slice b j k = (slice b i k).drop (j - i) := by
    rw [slice, slice, List.drop_take, List.drop_drop]
    congr 1
    · omega
    · congr 1
      omega
  rw [hfirst, hsecond, List.take_append_drop]

/-- The slice that stands between two strings is the string between them. -/
theorem slice_append_mid {p d q : List Byte} {i j : Nat} (hi : i = p.length) (hj : j = i + d.length) :
    slice (p ++ d ++ q) i j = d := by
  rw [slice, hj, hi, List.append_assoc, List.drop_left, Nat.add_sub_cancel_left, List.take_left]

/-! ### The deframer -/

/-- A string that `deframe` accepts, cut into the four fields of a frame (42_chunk_framer R160). -/
theorem eq_frame_of_slices {b : List Byte} (hn : 12 ≤ b.length) (hlen : (be32 (slice b 0 4)).toNat = b.length - 12) :
    b = frame (be32 (slice b 4 8)) (slice b 8 (b.length - 4)) (be32 (slice b (b.length - 4) b.length)) := by
  have hdata : (slice b 8 (b.length - 4)).length = (be32 (slice b 0 4)).toNat := by
    rw [hlen, slice_length (by omega)]
    omega
  have hall : slice b 0 b.length = b := by rw [slice, List.drop_zero, Nat.sub_zero, List.take_length]
  rw [frame, hdata, BitVec.ofNat_toNat, BitVec.setWidth_eq, bytesBe32_be32_of_length (slice_length (by omega)),
    bytesBe32_be32_of_length (slice_length (by omega)),
    bytesBe32_be32_of_length ((slice_length le_rfl).trans (by omega)), slice_append_slice (by decide) (by decide),
    slice_append_slice (by decide) (by omega), slice_append_slice (by omega) (by omega), hall]

/-- The fields of a frame, read back where they stand. -/
theorem slice_frame (ty : Word) (d : List Byte) (crc : Word) :
    slice (frame ty d crc) 0 4 = bytesBe32 (BitVec.ofNat 32 d.length) ∧ slice (frame ty d crc) 4 8 = bytesBe32 ty ∧
    slice (frame ty d crc) 8 (d.length + 8) = d ∧ slice (frame ty d crc) (d.length + 8) (d.length + 12) = bytesBe32 crc := by
  refine ⟨rfl, rfl, ?_, ?_⟩
  · exact slice_append_mid rfl (Nat.add_comm _ _)
  · rw [← List.append_nil (frame ty d crc)]
    exact slice_append_mid (by simp; omega) rfl

/-- `deframe` accepts exactly the frames whose data fits the length field and whose CRC is that of type and data (42_chunk_framer R162,
R163, R174). -/
theorem deframe_eq_ok_iff {b : List Byte} {ty len crc : Word} {d : List Byte} :
    deframe b = .ok ty len d crc ↔ b = frame ty d crc ∧ len.toNat = d.length ∧ crc = crc32 (bytesBe32 ty ++ d) := by
  constructor
  · intro h
    obtain ⟨hn, hlen, hcrc, rfl, rfl, rfl, rfl⟩ := deframe_eq_ok h
    refine ⟨eq_frame_of_slices hn hlen, ?_, ?_⟩
    · rw [hlen, slice_length (by omega)]
      omega
    · rw [bytesBe32_be32_of_length (slice_length (by omega)), hcrc]
  · rintro ⟨rfl, hlen, hcrc⟩
    obtain ⟨hs0, hs4, hs8, hs12⟩ := slice_frame ty d crc
    have hfield : be32 (bytesBe32 (BitVec.ofNat 32 d.length)) = len := by
      rw [be32_bytesBe32, ← hlen, BitVec.ofNat_toNat, BitVec.setWidth_eq]
    have hn : d.length + 12 - 4 = d.length + 8 := rfl
    simp [deframe, hs0, hs4, hs8, hs12, hn, hfield, hlen, ← hcrc]

/-! ### The checks of the deframer, each when those before it have passed (42_chunk_framer R163) -/

theorem deframe_of_short {b : List Byte} (h : b.length < 12) : deframe b = .fail .format .frameTooShort := if_pos h

theorem deframe_of_length_ne {b : List Byte} (hn : 12 ≤ b.length) (hlen : (be32 (slice b 0 4)).toNat ≠ b.length - 12) :
    deframe b = .fail .format .lengthMismatch :=
  (if_neg hn.not_gt).trans (if_pos hlen)

theorem deframe_of_crc_ne {b : List Byte} (hn : 12 ≤ b.length) (hlen : (be32 (slice b 0 4)).toNat = b.length - 12)
    (hcrc : crc32 (slice b 4 (b.length - 4)) ≠ be32 (slice b (b.length - 4) b.length)) :
    deframe b = .fail .crcMismatch .none := by
  rw [← slice_append_slice (j := 8) (by decide) (by omega)] at hcrc
  exact (if_neg hn.not_gt).trans ((if_neg (not_not.mpr hlen)).trans (if_pos hcrc))

theorem deframe_of_checks {b : List Byte} (hn : 12 ≤ b.length) (hlen : (be32 (slice b 0 4)).toNat = b.length - 12)
    (hcrc : crc32 (slice b 4 (b.length - 4)) = be32 (slice b (b.length - 4) b.length)) :
    deframe b = .ok (be32 (slice b 4 8)) (be32 (slice b 0 4)) (slice b 8 (b.length - 4))
      (be32 (slice b (b.length - 4) b.length)) := by
  rw [← slice_append_slice (j := 8) (by decide) (by omega)] at hcrc
  exact (if_neg hn.not_gt).trans ((if_neg (not_not.mpr hlen)).trans (if_neg (not_not.mpr hcrc)))

/-! ### The frame in OBUF -/

/-- Once a string has been written at the start of OBUF, OBUF begins with it. -/
theorem obufBytes_of_written {t : State} {b : List Byte} {old : Nat → Byte} (h : ∀ i, t.obufByte i = b[i]?.getD (old i)) :
    t.obufBytes b.length = b := by
  refine List.ext_getElem? fun i => ?_
  rw [obufBytes_getElem?, h]
  split
  · next hi => rw [List.getElem?_eq_getElem hi, Option.getD_some]
  · next hi => rw [List.getElem?_eq_none (Nat.not_lt.mp hi)]

/-- The frame of a chunk is as long as its header, its data and its CRC. -/
theorem frame_chunk_length (s : State) :
    (frame s.chType (s.chdataBytes s.chLen.toNat) s.chCrc).length = 12 + s.chLen.toNat := by
  rw [frame_length, chdataBytes_length, Nat.add_comm]

/-- The frame of a chunk that keeps its invariant is accepted (42_chunk_framer R174). -/
theorem deframe_frame_of_chunkOk {s : State} (hc : s.ChunkOk) (hv : s.chValid = true) :
    deframe (frame s.chType (s.chdataBytes s.chLen.toNat) s.chCrc) =
      .ok s.chType s.chLen (s.chdataBytes s.chLen.toNat) s.chCrc := by
  obtain ⟨-, hcrc⟩ := hc hv
  exact deframe_eq_ok_iff.mpr ⟨rfl, (chdataBytes_length s _).symm, hcrc⟩

theorem State.KeepsResults.obufHoldsFrame {s t : State} (k : s.KeepsResults t) (h : s.ObufHoldsFrame) : t.ObufHoldsFrame := by
  have hbytes (n : Nat) : t.obufBytes n = s.obufBytes n :=
    List.map_congr_left fun i _ => by rw [State.obufByte, k.obuf, k.draw, State.obufByte]
  unfold State.ObufHoldsFrame
  rw [k.obufLen, hbytes]
  exact h

theorem CommandEffect.obufHoldsFrame {s t : State} {i : Instr} (e : CommandEffect s i t) (hc : s.ChunkOk)
    (h : s.ObufHoldsFrame) : t.ObufHoldsFrame := by
  cases e with
  | encode hv =>
    obtain ⟨hfit, -⟩ := hc hv
    have hbytes := obufBytes_of_written (obufByte_writeBytes s (frame s.chType (s.chdataBytes s.chLen.toNat) s.chCrc))
    rw [frame_chunk_length, ← toNat_twelve_add hfit] at hbytes
    exact .inr ⟨_, _, _, _, (congrArg deframe hbytes).trans (deframe_frame_of_chunkOk hc hv)⟩
  | fail | setTag | setChunk | acceptText | discard | setCrc => exact h

/-- Settles O57: CHUNK_ENCODE alone writes OBUF, and the frame of a chunk that keeps its invariant is accepted; reset empties OBUF. -/
theorem obufAlwaysHoldsAnAcceptedFrame : Obligations.ObufAlwaysHoldsAnAcceptedFrame := by
  intro s t hc h hstep
  cases stepEffect_of_step hstep with
  | host _ e => exact e.keepsResults.obufHoldsFrame h
  | reset => exact .inl rfl
  | complete _ e => exact e.obufHoldsFrame hc h
  | wait => exact h

end Sys2Proof.Machine
end

section
/-! PROOFS. The chunk commands (42_chunk_framer section 2): what each answers, condition by condition. -/

namespace Sys2Proof.Machine

open Sys2Proof

theorem exec_chunkNew (s : State) : exec .chunkNew s = .next (s.complete (chunkNew s)) := rfl
theorem exec_chunkDecode (s : State) : exec .chunkDecode s = .next (s.complete (chunkDecode s)) := rfl
theorem exec_chunkEncode (s : State) : exec .chunkEncode s = .next (s.complete (chunkEncode s)) := rfl
theorem exec_dataAsText (s : State) : exec .dataAsText s = .next (s.complete (dataAsText s)) := rfl
theorem exec_chunkDiscard (s : State) : exec .chunkDiscard s = .next (s.complete (chunkDiscard s)) := rfl

/-! ### CHUNK_NEW -/

/-- A CHDATA byte past the data just stored is the old one (20_memory R74). -/
theorem chdataByte_retire_setChunk_of_length_le {s : State} {ty len : Word} {d : List Byte} {crc : Word} {i : Nat}
    (h : d.length ≤ i) : ((s.setChunk ty len d crc).retire .ok .none).chdataByte i = s.chdataByte i := by
  have hbyte : ((s.setChunk ty len d crc).retire .ok .none).chdataByte i = _ := chdataByte_writeBytes s d i
  rw [hbyte, List.getElem?_eq_none h, Option.getD_none]

theorem ibufSlice_length (s : State) (a n : Nat) : (s.ibufSlice a n).length = n := by
  rw [State.ibufSlice, List.length_map, List.length_range]

/-- Settles O31: each of the two answers of the body stands under its own clause and contradicts the other. -/
theorem chunkNewBuildsTheChunk : Obligations.ChunkNewBuildsTheChunk := by
  refine ⟨rfl, fun s => ?_⟩
  rw [exec_chunkNew]
  rcases chunkNew_cases s with ⟨hcap, e⟩ | ⟨hfit, e⟩ <;> rw [e]
  · exact ⟨fun hle => absurd hle hcap.not_ge, fun _ => rfl⟩
  · rw [ibufBytes_eq_ibufSlice]
    refine ⟨fun _ => ⟨_, rfl, rfl, fun i hi => ?_, fun i hi => ?_, rfl⟩, fun hlt => absurd hlt hfit.not_gt⟩
    · exact chdataByte_retire_setChunk (by rw [getElem?_ibufSlice hi, Nat.zero_add])
    · exact chdataByte_retire_setChunk_of_length_le (by rwa [ibufSlice_length])

/-! ### CHUNK_ENCODE -/

/-- OBUF begins with the frame of the chunk just encoded. -/
theorem obufBytes_of_chunkEncode {s t : State} (hv : s.chValid = true) (h : exec .chunkEncode s = .next t) :
    t.obufBytes (12 + s.chLen.toNat) = frame s.chType (s.chdataBytes s.chLen.toNat) s.chCrc := by
  obtain ⟨-, hbyte⟩ := chunkEncode_result hv h
  rw [← frame_chunk_length, obufBytes_of_written hbyte]

/-- Settles O32: the frame is written at the start of OBUF and ends where the kept bytes begin. -/
theorem chunkEncodeWritesTheFrame : Obligations.ChunkEncodeWritesTheFrame := by
  refine ⟨rfl, fun s => ?_⟩
  rcases chunkEncode_cases s with ⟨hnone, e⟩ | ⟨hv, e⟩
  · refine ⟨fun hv => absurd (hnone.symm.trans hv) (by decide), fun _ => ?_⟩
    rw [exec_chunkEncode, e]
    rfl
  · have hexec := exec_chunkEncode s
    obtain ⟨-, hbyte⟩ := chunkEncode_result hv hexec
    refine ⟨fun _ => ⟨_, hexec, by rw [e]; rfl, ?_, fun i hi => ?_⟩, fun hnone => absurd (hnone.symm.trans hv) (by decide)⟩
    · rw [obufBytes_of_chunkEncode hv hexec, frame, chdataBytes_length, BitVec.ofNat_toNat, BitVec.setWidth_eq]
    · rw [hbyte, List.getElem?_eq_none (by rwa [frame_chunk_length]), Option.getD_none]

/-! ### CHUNK_DECODE -/

/-- The fields that `deframe` cuts out of the first `n` bytes of IBUF. -/
theorem slice_ibufBytes_fields {s : State} {n : Nat} (hn : 12 ≤ n) :
    slice (s.ibufBytes n) 0 4 = s.ibufSlice 0 4 ∧ slice (s.ibufBytes n) 4 8 = s.ibufSlice 4 4 ∧
    slice (s.ibufBytes n) 8 (n - 4) = s.ibufSlice 8 (n - 12) ∧ slice (s.ibufBytes n) 4 (n - 4) = s.ibufSlice 4 (n - 8) ∧
    slice (s.ibufBytes n) (n - 4) n = s.ibufSlice (n - 4) 4 := by
  refine ⟨slice_ibufBytes (by omega), slice_ibufBytes (by omega), ?_, ?_, ?_⟩
  · rw [slice_ibufBytes (by omega), Nat.sub_sub]
  · rw [slice_ibufBytes (by omega), Nat.sub_sub]
  · rw [slice_ibufBytes le_rfl, Nat.sub_sub_self (by omega)]

theorem exec_chunkDecode_of_capacity {s : State} (h : s.ibufMax < s.ibufLen.toNat) :
    exec .chunkDecode s = .next (s.fail .capacity .none) := by
  rw [exec_chunkDecode, chunkDecode, if_pos h, State.complete_fail]

theorem exec_chunkDecode_of_deframe_fail {s : State} {e : Err} {c : Cause} (hcap : s.ibufLen.toNat ≤ s.ibufMax)
    (hd : deframe (s.ibufBytes s.ibufLen.toNat) = .fail e c) : exec .chunkDecode s = .next (s.fail e c) := by
  rw [exec_chunkDecode, chunkDecode_of_deframe_fail hcap hd, State.complete_fail]

theorem exec_chunkDecode_of_deframe_ok {s : State} {ty len crc : Word} {d : List Byte} (hcap : s.ibufLen.toNat ≤ s.ibufMax)
    (hd : deframe (s.ibufBytes s.ibufLen.toNat) = .ok ty len d crc) :
    exec .chunkDecode s = .next ((s.setChunk ty len d crc).retire .ok .none) := by
  rw [exec_chunkDecode, chunkDecode_of_deframe_ok hcap hd, State.complete_ok]

/-- Settles O33: the capacity check, then the checks of `deframe` on the first `IBUF_LEN` bytes of IBUF; `IBUF_MAX` is at least 12. -/
theorem chunkDecodeChecksTheFrame : Obligations.ChunkDecodeChecksTheFrame := by
  refine ⟨rfl, ?_⟩
  rintro s _ rfl
  have hlength := ibufBytes_length s s.ibufLen.toNat
  refine ⟨exec_chunkDecode_of_capacity, fun hn => ?_, fun hn hcap hlen => ?_, fun hn hcap hlen hcrc => ?_, fun hn hcap hlen hcrc => ?_⟩
  · have hcap : s.ibufLen.toNat ≤ s.ibufMax := by
      rw [State.ibufMax]
      omega
    exact exec_chunkDecode_of_deframe_fail hcap (deframe_of_short (by rwa [hlength]))
  all_goals obtain ⟨h0, h4, h8, hbody, hlast⟩ := slice_ibufBytes_fields (s := s) hn
  · exact exec_chunkDecode_of_deframe_fail hcap (deframe_of_length_ne (by rwa [hlength]) (by rwa [hlength, h0]))
  · exact exec_chunkDecode_of_deframe_fail hcap
      (deframe_of_crc_ne (by rwa [hlength]) (by rwa [hlength, h0]) (by rwa [hlength, hbody, hlast]))
  · have hd := deframe_of_checks (b := s.ibufBytes s.ibufLen.toNat) (by rwa [hlength]) (by rwa [hlength, h0])
      (by rwa [hlength, hbody, hlast])
    rw [hlength, h0, h4, h8, hlast] at hd
    refine ⟨_, exec_chunkDecode_of_deframe_ok hcap hd, rfl, fun i hi => ?_, fun i hi => ?_⟩
    · exact chdataByte_retire_setChunk (getElem?_ibufSlice hi)
    · exact chdataByte_retire_setChunk_of_length_le (by rwa [ibufSlice_length])

/-! ### DATA_AS_TEXT and CHUNK_DISCARD -/

/-- Settles O35: each of the three answers of the body stands under its own clause and contradicts the other two. -/
theorem dataAsTextGivesTheVerdict : Obligations.DataAsTextGivesTheVerdict := by
  refine ⟨rfl, fun s => ?_⟩
  rw [exec_dataAsText]
  rcases dataAsText_cases s with ⟨hv, e⟩ | ⟨hv, hutf8, e⟩ | ⟨hv, hutf8, e⟩ <;> rw [e]
  · exact ⟨fun _ => rfl, fun h => absurd (hv.symm.trans h) (by decide), fun h => absurd (hv.symm.trans h) (by decide)⟩
  · exact ⟨fun h => absurd (hv.symm.trans h) (by decide), fun _ _ => rfl, fun _ h => absurd (hutf8.symm.trans h) (by decide)⟩
  · exact ⟨fun h => absurd (hv.symm.trans h) (by decide), fun _ h => absurd (hutf8.symm.trans h) (by decide), fun _ _ => rfl⟩

/-- Without data the bus sees only zero bytes in CHDATA (20_memory R64, D17). -/
theorem chdataWord_of_empty {s : State} (h : s.chLen = 0) (off : Nat) : s.chdataWord off = 0 := by
  have hseen (i : Nat) : s.chdataSeen i = 0x00 := by
    rw [State.chdataSeen, h]
    exact if_neg (Nat.not_lt_zero i)
  rw [State.chdataWord, hseen, hseen, hseen, hseen]
  rfl

/-- Settles O34: the body has no condition; the cleared `CH_LEN` hides every CHDATA byte, and the cleared `CH_VALID` fails CHUNK_ENCODE. -/
theorem chunkDiscardEmptiesTheChunk : Obligations.ChunkDiscardEmptiesTheChunk := by
  have hflags : tagFlags 0 = 0x00000017 := by decide
  refine ⟨rfl, fun s => ⟨_, exec_chunkDiscard s, rfl, hflags, fun off => ⟨_, exec_rdChdata off _, ?_⟩, rfl⟩⟩
  rcases (s.complete (chunkDiscard s)).windowRead_cases off _ _ with ⟨-, e⟩ | ⟨-, e⟩ <;> rw [e]
  · exact chdataWord_of_empty rfl off.toNat
  · rfl

end Sys2Proof.Machine
end

section
/-! PROOFS. The laws of the framer (42_chunk_framer section 4): the round trips, and the rejection of a frame with one bit flipped. -/

namespace Sys2Proof.Machine

open Sys2Proof

/-! ### Round trips -/

/-- A chunk just stored, with a length that fits and the CRC of its own bytes, keeps the chunk invariant. -/
theorem chunkOk_retire_setChunk {s : State} {ty len crc : Word} {d : List Byte} (hfit : len.toNat ≤ s.dataMax)
    (hd : d.length = len.toNat) (hcrc : crc = crc32 (bytesBe32 ty ++ d)) :
    ((s.setChunk ty len d crc).retire .ok .none).ChunkOk := by
  have hdata : (s.setChunk ty len d crc).chdataBytes len.toNat = d := hd ▸ chdataBytes_setChunk
  exact fun _ => ⟨hfit, by simpa [hdata] using hcrc⟩

/-- A CHUNK_NEW that fits leaves a valid chunk, whatever chunk was there before (42_chunk_framer R172). -/
theorem chunkNew_leaves_chunkOk {s t : State} (hfit : s.ibufLen.toNat ≤ s.dataMax) (h : exec .chunkNew s = .next t) :
    t.chValid = true ∧ t.ChunkOk := by
  rcases chunkNew_cases s with ⟨hcap, -⟩ | ⟨-, e⟩
  · exact absurd hfit hcap.not_ge
  · rw [exec_chunkNew, e] at h
    cases h
    exact ⟨rfl, chunkOk_retire_setChunk hfit (ibufBytes_length s _) rfl⟩

/-- Settles O38: IBUF holds the frame of the chunk, which `deframe` takes apart into that chunk. -/
theorem chunkRoundTripsThroughTheFrame : Obligations.ChunkRoundTripsThroughTheFrame := by
  intro s t u v hfit hnew hencode hbuild hlen hcopy
  obtain ⟨hv, hc⟩ := chunkNew_leaves_chunkOk hfit hnew
  obtain ⟨hfit', -⟩ := hc hv
  have hmax : t.dataMax = v.dataMax := by
    rw [State.dataMax, (commandEffect_of_exec rfl hnew).keepsHostState.dataWords, ← hbuild, State.dataMax]
  have hn : u.obufLen.toNat = 12 + t.chLen.toNat := by
    rw [(chunkEncode_result hv hencode).1, toNat_twelve_add hfit']
  have hibuf : v.ibufBytes v.ibufLen.toNat = frame t.chType (t.chdataBytes t.chLen.toNat) t.chCrc := by
    rw [← obufBytes_of_chunkEncode hv hencode, ← hn, hlen]
    exact List.map_congr_left fun i hi => hcopy i (List.mem_range.mp hi)
  have hcap : v.ibufLen.toNat ≤ v.ibufMax := by
    rw [hlen, hn, State.ibufMax, ← hmax]
    omega
  have hd := deframe_frame_of_chunkOk hc hv
  rw [← hibuf] at hd
  refine ⟨_, exec_chunkDecode_of_deframe_ok hcap hd, rfl, rfl, rfl, rfl, rfl, fun i hi => chdataByte_retire_setChunk ?_⟩
  rw [chdataBytes_getElem?, if_pos hi]

/-- A successful CHUNK_DECODE has stored what `deframe` answered. -/
theorem chunkDecode_eq_ok {s t : State} (h : exec .chunkDecode s = .next t) (hok : t.err = .ok) :
    s.ibufLen.toNat ≤ s.ibufMax ∧ ∃ ty len d crc, deframe (s.ibufBytes s.ibufLen.toNat) = .ok ty len d crc ∧
      t = (s.setChunk ty len d crc).retire .ok .none := by
  rcases chunkDecode_cases s with ⟨hcap, -⟩ | ⟨hcap, e, c, hd, -⟩ | ⟨hcap, ty, len, d, crc, hd, -⟩
  · rw [exec_chunkDecode_of_capacity hcap] at h
    cases h
    cases hok
  · rw [exec_chunkDecode_of_deframe_fail hcap hd] at h
    cases h
    exact absurd hok (deframe_eq_fail hd).1
  · rw [exec_chunkDecode_of_deframe_ok hcap hd] at h
    cases h
    exact ⟨hcap, ty, len, d, crc, hd, rfl⟩

/-- Settles O39: the string decoded is the frame of the chunk stored, and CHUNK_ENCODE writes that frame. -/
theorem encodeGivesBackTheDecodedBytes : Obligations.EncodeGivesBackTheDecodedBytes := by
  intro s t h hok
  obtain ⟨-, ty, len, d, crc, hd, rfl⟩ := chunkDecode_eq_ok h hok
  obtain ⟨hframe, hlen, -⟩ := deframe_eq_ok_iff.mp hd
  have hn : s.ibufLen.toNat = 12 + len.toNat := by
    rw [← ibufBytes_length s s.ibufLen.toNat, hframe, frame_length, hlen, Nat.add_comm]
  have hobufLen : 12 + len = s.ibufLen := by
    refine BitVec.eq_of_toNat_eq ?_
    rw [hn, BitVec.toNat_add]
    exact Nat.mod_eq_of_lt (hn ▸ s.ibufLen.isLt)
  have hdata : (s.setChunk ty len d crc).chdataBytes len.toNat = d := hlen ▸ chdataBytes_setChunk
  obtain ⟨-, hencode⟩ := chunkEncodeWritesTheFrame
  obtain ⟨u, hu, hregs, -⟩ := (hencode ((s.setChunk ty len d crc).retire .ok .none)).1 rfl
  have hobuf : u.obufBytes (12 + len.toNat) = s.ibufBytes s.ibufLen.toNat := by
    rw [hframe]
    have hbytes := obufBytes_of_chunkEncode rfl hu
    rw [State.retire_chdataBytes, State.retire_chLen, State.setChunk_chLen, hdata] at hbytes
    exact hbytes
  refine ⟨u, hu, congrArg State.err hregs, (congrArg State.obufLen hregs).trans hobufLen, fun i hi => ?_⟩
  have hbyte : (u.obufBytes (12 + len.toNat))[i]? = (s.ibufBytes s.ibufLen.toNat)[i]? := by rw [hobuf]
  rw [obufBytes_getElem?, ibufBytes_getElem?, ← hn, if_pos hi, if_pos hi] at hbyte
  exact Option.some.inj hbyte

/-! ### One flipped bit -/

/-- A flip outside a slice does not touch it. -/
theorem slice_flipBit_of_outside {b : List Byte} {i k p q : Nat} (h : i < p ∨ q ≤ i) :
    slice (flipBit b i k) p q = slice b p q := by
  refine List.ext_getElem? fun j => ?_
  rw [getElem?_slice, getElem?_slice]
  split
  · rw [flipBit, List.getElem?_modify_ne _ _ (by omega)]
  · rfl

/-- A flip from the start of a slice on flips the same bit of the slice, if the slice has it. -/
theorem slice_flipBit_of_le {b : List Byte} {i k p q : Nat} (hp : p ≤ i) :
    slice (flipBit b i k) p q = flipBit (slice b p q) (i - p) k := by
  refine List.ext_getElem? fun j => ?_
  rw [getElem?_slice, flipBit, flipBit, List.getElem?_modify, List.getElem?_modify, getElem?_slice]
  have hsame : i = p + j ↔ i - p = j := by omega
  simp only [hsame]
  split <;> simp

theorem flipBit_length (b : List Byte) (i k : Nat) : (flipBit b i k).length = b.length := List.length_modify ..

theorem flipBit_ne {b : List Byte} {i k : Nat} (hi : i < b.length) (hk : k < 8) : flipBit b i k ≠ b :=
  fun h => crcDetectsEverySingleBitError b i k hi hk (congrArg crc32 h)

/-- A flip in a big-endian field changes its value. -/
theorem be32_flipBit_ne {b : List Byte} {i k : Nat} (hb : b.length = 4) (hi : i < 4) (hk : k < 8) :
    be32 (flipBit b i k) ≠ be32 b := by
  intro h
  have hbytes := congrArg bytesBe32 h
  rw [bytesBe32_be32_of_length ((flipBit_length b i k).trans hb), bytesBe32_be32_of_length hb] at hbytes
  exact flipBit_ne (hb ▸ hi) hk hbytes

/-- A frame with one bit flipped is rejected: by its length field, or by one side of the comparison of the CRCs (42_chunk_framer R175). -/
theorem deframe_flipBit {b : List Byte} {i k : Nat} {ty len crc : Word} {d : List Byte} (h : deframe b = .ok ty len d crc)
    (hi : i < b.length) (hk : k < 8) :
    deframe (flipBit b i k) =
      .fail (if i < 4 then .format else .crcMismatch) (if i < 4 then .lengthMismatch else .none) := by
  obtain ⟨hn, hlen, hcrc, -, hfield, hdata, hlast⟩ := deframe_eq_ok h
  rw [hfield] at hlen
  rw [hdata, slice_append_slice (by decide) (by omega), hlast] at hcrc
  have hn' : 12 ≤ (flipBit b i k).length := by rwa [flipBit_length]
  by_cases h4 : i < 4
  · rw [if_pos h4, if_pos h4]
    refine deframe_of_length_ne hn' ?_
    rw [flipBit_length, ← hlen, slice_flipBit_of_le (Nat.zero_le i)]
    exact BitVec.toNat_inj.not.mpr (be32_flipBit_ne (slice_length (by omega)) h4 hk)
  · rw [if_neg h4, if_neg h4]
    refine deframe_of_crc_ne hn' ?_ ?_
    · rw [flipBit_length, slice_flipBit_of_outside (.inr (Nat.not_lt.mp h4)), hlen]
    · rw [flipBit_length]
      by_cases hend : i < b.length - 4
      · rw [slice_flipBit_of_le (Nat.not_lt.mp h4), slice_flipBit_of_outside (.inl hend), ← hcrc]
        exact crcDetectsEverySingleBitError _ _ k (by rw [slice_length (by omega)]; omega) hk
      · rw [slice_flipBit_of_outside (.inr (Nat.not_lt.mp hend)), slice_flipBit_of_le (Nat.not_lt.mp hend), hcrc]
        exact (be32_flipBit_ne ((slice_length le_rfl).trans (by omega)) (by omega) hk).symm

/-- Settles O40: CHUNK_DECODE answers what `deframe` answers to the frame with one bit flipped. -/
theorem decodeRejectsEverySingleBitFlip : Obligations.DecodeRejectsEverySingleBitFlip := by
  intro s s' t i k h hok hbuild hlen hi hk hflip
  obtain ⟨hcap, ty, len, d, crc, hd, -⟩ := chunkDecode_eq_ok h hok
  have hcap' : s'.ibufLen.toNat ≤ s'.ibufMax := by
    rw [hlen, State.ibufMax, State.dataMax, hbuild]
    exact hcap
  have hd' := deframe_flipBit hd (by rwa [ibufBytes_length]) hk
  rw [← hflip, ← hlen] at hd'
  exact exec_chunkDecode_of_deframe_fail hcap' hd'

end Sys2Proof.Machine
end

section
/-! PROOFS. The UTF-8 check (42_chunk_framer R181): the greedy split finds the only split there is, and the forms are what Lean's own
encoder writes for one character. -/

namespace Sys2Proof.Machine

open Sys2Proof

/-! ### The forms -/

/-- `p` is one sequence of the form `f`: byte by byte in its ranges. -/
def FitsForm (f : List ByteRange) (p : List Byte) : Prop := List.Forall₂ (fun r b => inRange r b = true) f p

theorem inRange_iff {r : ByteRange} {b : Byte} : inRange r b = true ↔ r.1.toNat ≤ b.toNat ∧ b.toNat ≤ r.2.toNat := by
  simp only [inRange, BitVec.le_def, Bool.and_eq_true, decide_eq_true_eq]

/-- What `stripForm` strips is one sequence of the form. -/
theorem stripForm_eq_some_iff {f : List ByteRange} {s rest : List Byte} :
    stripForm f s = some rest ↔ ∃ p, FitsForm f p ∧ s = p ++ rest := by
  induction f generalizing s with
  | nil => simp [stripForm, FitsForm]
  | cons r f ih =>
    cases s with
    | nil => simp [stripForm, FitsForm, List.forall₂_cons_left_iff]
    | cons b s =>
      by_cases hb : inRange r b = true
      · rw [stripForm, if_pos hb, ih]
        constructor
        · rintro ⟨p, hp, rfl⟩
          exact ⟨b :: p, .cons hb hp, rfl⟩
        · rintro ⟨_, hp, hs⟩
          cases hp with
          | cons _ hp =>
            cases hs
            exact ⟨_, hp, rfl⟩
      · rw [stripForm, if_neg hb]
        refine ⟨nofun, ?_⟩
        rintro ⟨_, hp, hs⟩
        cases hp with
        | cons hb' _ =>
          cases hs
          exact absurd hb' hb

/-- The nine forms of the table are the byte values of `Utf8Sequence`. -/
theorem utf8Sequence_iff_fitsForm {p : List Byte} : Utf8Sequence p ↔ ∃ f ∈ utf8Forms, FitsForm f p := by
  simp only [utf8Forms, FitsForm, List.exists_mem_cons_iff, List.not_mem_nil, false_and, exists_false, or_false]
  match p with
  | [] => simp [Utf8Sequence]
  | [a] => simp [Utf8Sequence, inRange_iff]
  | [a, b] => simp [Utf8Sequence, inRange_iff]
  | [a, b, c] =>
    simp only [Utf8Sequence, inRange_iff, List.forall₂_cons, List.forall₂_nil_left_iff, List.forall₂_nil_right_iff,
      BitVec.ofNat_eq_ofNat, BitVec.toNat_ofNat, Nat.reducePow, Nat.reduceMod, reduceCtorEq, and_false, or_false, false_or, and_true]
    omega
  | [a, b, c, d] =>
    simp only [Utf8Sequence, inRange_iff, List.forall₂_cons, List.forall₂_nil_left_iff, List.forall₂_nil_right_iff,
      BitVec.ofNat_eq_ofNat, BitVec.toNat_ofNat, Nat.reducePow, Nat.reduceMod, reduceCtorEq, and_false, false_or, and_true]
    omega
  | _ :: _ :: _ :: _ :: _ :: _ => simp [Utf8Sequence]

theorem Utf8Sequence.length_pos {p : List Byte} (h : Utf8Sequence p) : 0 < p.length := by
  cases p with
  | nil => exact h.elim
  | cons b p => exact Nat.succ_pos _

/-- No two forms share a first byte. -/
theorem firstRanges_disjoint : ∀ f ∈ utf8Forms, ∀ g ∈ utf8Forms, f = g ∨
    (f.headD (0, 0)).2 < (g.headD (0, 0)).1 ∨ (g.headD (0, 0)).2 < (f.headD (0, 0)).1 := by decide

theorem FitsForm.first_inRange {f : List ByteRange} {b : Byte} {p : List Byte} (h : FitsForm f (b :: p)) :
    inRange (f.headD (0, 0)) b = true := by
  cases h with
  | cons hb _ => exact hb

theorem form_eq_of_first_byte {f g : List ByteRange} {b : Byte} {p q : List Byte} (hf : f ∈ utf8Forms) (hg : g ∈ utf8Forms)
    (hp : FitsForm f (b :: p)) (hq : FitsForm g (b :: q)) : f = g := by
  have hfb := inRange_iff.mp hp.first_inRange
  have hgb := inRange_iff.mp hq.first_inRange
  rcases firstRanges_disjoint f hf g hg with h | h | h
  · exact h
  all_goals
    rw [BitVec.lt_def] at h
    omega

/-! ### The split -/

/-- `s` is the concatenation of sequences of the forms. -/
def SplitsIntoForms (s : List Byte) : Prop := ∃ parts : List (List Byte), s = parts.flatten ∧ ∀ p ∈ parts, Utf8Sequence p

/-- The search through the forms finds the sequence that `s` begins with, whichever form comes first: only one can fit. -/
theorem findSome?_utf8Forms_iff {s rest : List Byte} :
    utf8Forms.findSome? (fun f => stripForm f s) = some rest ↔ ∃ p, Utf8Sequence p ∧ s = p ++ rest := by
  constructor
  · intro h
    obtain ⟨f, hf, hstrip⟩ := List.exists_of_findSome?_eq_some h
    obtain ⟨p, hp, hs⟩ := stripForm_eq_some_iff.mp hstrip
    exact ⟨p, utf8Sequence_iff_fitsForm.mpr ⟨f, hf, hp⟩, hs⟩
  · rintro ⟨p, hseq, hs⟩
    obtain ⟨f, hf, hp⟩ := utf8Sequence_iff_fitsForm.mp hseq
    have hstrip : stripForm f s = some rest := stripForm_eq_some_iff.mpr ⟨p, hp, hs⟩
    cases hfind : utf8Forms.findSome? (fun f => stripForm f s) with
    | none => 
      rw [List.findSome?_eq_none_iff] at hfind
      rw [hfind f hf] at hstrip
      cases hstrip
    | some rest' =>
      obtain ⟨g, hg, hstrip'⟩ := List.exists_of_findSome?_eq_some hfind
      obtain ⟨q, hq, hs'⟩ := stripForm_eq_some_iff.mp hstrip'
      have hseq' := utf8Sequence_iff_fitsForm.mpr ⟨g, hg, hq⟩
      match p, q, hseq, hseq' with
      | b :: p, b' :: q, _, _ =>
        obtain rfl : b = b' := (List.cons.inj (hs.symm.trans hs')).1
        rw [form_eq_of_first_byte hg hf hq hp, hstrip] at hstrip'
        exact hstrip'.symm

theorem splitsIntoForms_nil : SplitsIntoForms [] := ⟨[], rfl, nofun⟩

/-- A string that splits begins with a sequence, and the rest splits. -/
theorem splitsIntoForms_cons_iff {b : Byte} {s : List Byte} :
    SplitsIntoForms (b :: s) ↔ ∃ p rest, Utf8Sequence p ∧ b :: s = p ++ rest ∧ SplitsIntoForms rest := by
  constructor
  · rintro ⟨_ | ⟨p, parts⟩, hs, hparts⟩
    · cases hs
    · rw [List.forall_mem_cons] at hparts
      exact ⟨p, parts.flatten, hparts.1, hs, parts, rfl, hparts.2⟩
  · rintro ⟨p, _, hp, hs, parts, rfl, hparts⟩
    exact ⟨p :: parts, hs, List.forall_mem_cons.mpr ⟨hp, hparts⟩⟩

theorem utf8Split_iff {n : Nat} {s : List Byte} (hn : s.length ≤ n) : utf8Split n s = true ↔ SplitsIntoForms s := by
  induction n generalizing s with
  | zero =>
    obtain rfl := List.length_eq_zero_iff.mp (Nat.le_zero.mp hn)
    exact iff_of_true rfl splitsIntoForms_nil
  | succ n ih =>
    cases s with
    | nil => exact iff_of_true rfl splitsIntoForms_nil
    | cons b s =>
      rw [splitsIntoForms_cons_iff, utf8Split]
      split
      · next rest hfind =>
        obtain ⟨q, hq, hsplit⟩ := findSome?_utf8Forms_iff.mp hfind
        have hrest : rest.length ≤ n := by
          have hlen := congrArg List.length hsplit
          have hpos := hq.length_pos
          rw [List.length_append] at hlen
          omega
        rw [ih hrest]
        refine ⟨fun h => ⟨q, rest, hq, hsplit, h⟩, ?_⟩
        rintro ⟨p, rest', hp, hs, h⟩
        rw [findSome?_utf8Forms_iff.mpr ⟨p, hp, hs⟩] at hfind
        cases hfind
        exact h
      · next hfind =>
        refine ⟨nofun, ?_⟩
        rintro ⟨p, rest, hp, hs, -⟩
        rw [findSome?_utf8Forms_iff.mpr ⟨p, hp, hs⟩] at hfind
        cases hfind

/-- Settles O36: the table of forms and `Utf8Sequence` agree, and the length bounds the number of sequences. -/
theorem utf8OkIsSplittingIntoForms : Obligations.Utf8OkIsSplittingIntoForms :=
  fun _ => utf8Split_iff le_rfl

/-! ### Lean's encoder -/

/-- The bytes that Lean's encoder writes for the character with the scalar value `v`. -/
def scalarBytes (v : Nat) : List Byte :=
  if v ≤ 0x7F then [BitVec.ofNat 8 v]
  else if v ≤ 0x7FF then [BitVec.ofNat 8 (v / 64 % 32 + 0xC0), BitVec.ofNat 8 (v % 64 + 0x80)]
  else if v ≤ 0xFFFF then
    [BitVec.ofNat 8 (v / 4096 % 16 + 0xE0), BitVec.ofNat 8 (v / 64 % 64 + 0x80), BitVec.ofNat 8 (v % 64 + 0x80)]
  else
    [BitVec.ofNat 8 (v / 262144 % 8 + 0xF0), BitVec.ofNat 8 (v / 4096 % 64 + 0x80), BitVec.ofNat 8 (v / 64 % 64 + 0x80),
      BitVec.ofNat 8 (v % 64 + 0x80)]

theorem utf8EncodeChar_eq_scalarBytes (c : Char) : (String.utf8EncodeChar c).map UInt8.toBitVec = scalarBytes c.val.toNat := by
  simp only [String.utf8EncodeChar, scalarBytes, apply_ite (List.map UInt8.toBitVec)]
  rfl

theorem byte_eq_ofNat_iff {b : Byte} {n : Nat} : b = BitVec.ofNat 8 n ↔ b.toNat = n % 256 := by
  rw [BitVec.toNat_eq, BitVec.toNat_ofNat]

/-- The encoding of a scalar value is one of the forms. -/
theorem utf8Sequence_scalarBytes {v : Nat} (hv : v.isValidChar) : Utf8Sequence (scalarBytes v) := by
  unfold Nat.isValidChar at hv
  unfold scalarBytes
  split_ifs <;> simp only [Utf8Sequence, BitVec.toNat_ofNat] <;> omega

/-- Each sequence of the forms is the encoding of a scalar value: the one whose bits its bytes carry. -/
theorem exists_eq_scalarBytes {p : List Byte} (h : Utf8Sequence p) : ∃ v : Nat, v.isValidChar ∧ p = scalarBytes v := by
  unfold Nat.isValidChar scalarBytes
  match p with
  | [a] =>
    simp only [Utf8Sequence] at h
    refine ⟨a.toNat, by omega, ?_⟩
    rw [if_pos (by omega)]
    simp only [List.cons.injEq, byte_eq_ofNat_iff, and_true]
    omega
  | [a, b] =>
    simp only [Utf8Sequence] at h
    refine ⟨(a.toNat - 0xC0) * 64 + (b.toNat - 0x80), by omega, ?_⟩
    rw [if_neg (by omega), if_pos (by omega)]
    simp only [List.cons.injEq, byte_eq_ofNat_iff, and_true]
    omega
  | [a, b, c] =>
    simp only [Utf8Sequence] at h
    refine ⟨(a.toNat - 0xE0) * 4096 + (b.toNat - 0x80) * 64 + (c.toNat - 0x80), by omega, ?_⟩
    rw [if_neg (by omega), if_neg (by omega), if_pos (by omega)]
    simp only [List.cons.injEq, byte_eq_ofNat_iff, and_true]
    omega
  | [a, b, c, d] =>
    simp only [Utf8Sequence] at h
    refine ⟨(a.toNat - 0xF0) * 262144 + (b.toNat - 0x80) * 4096 + (c.toNat - 0x80) * 64 + (d.toNat - 0x80), by omega, ?_⟩
    rw [if_neg (by omega), if_neg (by omega), if_neg (by omega)]
    simp only [List.cons.injEq, byte_eq_ofNat_iff, and_true]
    omega

/-- The sequences of the forms are the encodings of the characters. -/
theorem utf8Sequence_iff_mem_range {p : List Byte} :
    Utf8Sequence p ↔ p ∈ Set.range fun c : Char => (String.utf8EncodeChar c).map UInt8.toBitVec := by
  simp only [Set.mem_range, utf8EncodeChar_eq_scalarBytes]
  constructor
  · intro h
    obtain ⟨v, hv, rfl⟩ := exists_eq_scalarBytes h
    exact ⟨Char.ofNatAux v hv, rfl⟩
  · rintro ⟨c, rfl⟩
    exact utf8Sequence_scalarBytes c.valid

/-- Settles O37: a list of sequences of the forms is the list of the encodings of some characters. -/
theorem utf8OkIsEncodingOfScalars : Obligations.Utf8OkIsEncodingOfScalars := by
  intro s
  rw [utf8OkIsSplittingIntoForms]
  constructor
  · rintro ⟨parts, rfl, hparts⟩
    have hrange : parts ∈ Set.range (List.map fun c : Char => (String.utf8EncodeChar c).map UInt8.toBitVec) := by
      rw [Set.range_list_map]
      exact fun p hp => utf8Sequence_iff_mem_range.mp (hparts p hp)
    obtain ⟨cs, rfl⟩ := hrange
    exact ⟨cs, rfl⟩
  · rintro ⟨cs, rfl⟩
    refine ⟨_, rfl, fun p hp => utf8Sequence_iff_mem_range.mpr ?_⟩
    obtain ⟨c, -, hc⟩ := List.mem_map.mp hp
    exact ⟨c, hc⟩

end Sys2Proof.Machine
end

section
/-! PROOFS. No trap stops the block: every step has a next state; and a failing command answers a row of the error table (60_exceptions
R200), under that row's condition. -/

namespace Sys2Proof.Machine

open Sys2Proof

/-! ### Every step has a next state -/

theorem exists_exec_eq_next (i : Instr) (s : State) : ∃ t, exec i s = .next t := by
  cases hi : i.isCommand with
  | false =>
    obtain ⟨t, ht, -⟩ := exec_bus i s hi
    exact ⟨t, ht⟩
  | true =>
    obtain ⟨o, ho, -⟩ := exec_command i s hi
    exact ⟨_, ho⟩

theorem exists_step_eq_next (s : State) : ∃ t, step s = .next t := by
  rcases step_cases s with ⟨tr, -, e⟩ | ⟨-, e⟩ | ⟨-, e⟩ | ⟨-, -, e⟩ <;> rw [e]
  · exact exists_exec_eq_next (decodeBus tr) s.dropMove
  · exact ⟨_, rfl⟩
  · exact exists_exec_eq_next (decodeCmd s.pend) s.dropMove
  · exact ⟨_, rfl⟩

theorem BusEffect.sched {s t : State} {i : Instr} (e : BusEffect s i t) : t.sched = s.sched := by
  cases e <;> rfl

theorem CommandEffect.sched {s t : State} {i : Instr} (e : CommandEffect s i t) : t.sched = s.sched := by
  cases e <;> rfl

/-- A step takes the first move, if there is one, and keeps the build, whatever its kind. -/
theorem StepEffect.sched_dataWords {s t : State} (e : StepEffect s t) : t.sched = s.sched.tail ∧ t.dataWords = s.dataWords := by
  cases e with
  | host _ e => exact ⟨e.sched, e.keepsResults.dataWords⟩
  | complete _ e => exact ⟨e.sched, e.keepsHostState.dataWords⟩
  | reset | wait => exact ⟨rfl, rfl⟩

/-- Settles O7: `exec` answers a next state for every command and every transaction, and no effect of a step touches the later moves or
the build. -/
theorem everyStepHasANextState : Obligations.EveryStepHasANextState := by
  intro s
  obtain ⟨t, ht⟩ := exists_step_eq_next s
  exact ⟨t, ht, (stepEffect_of_step ht).sched_dataWords⟩

/-! ### The error table -/

/-- Bytes that fail the letter check include one that is no letter (40_tag_decoder R122). -/
theorem exists_not_isLetter_of_alpha_eq_false {s : State} {n : Nat} (h : alpha (s.ibufBytes n) = false) :
    ∃ k, k < n ∧ ¬IsLetter (s.ibufByte k).toNat := by
  have hnot := (alpha_ibufBytes_iff s n).not.mp (Bool.eq_false_iff.mp h)
  push Not at hnot
  exact hnot

/-- The check that `deframe` failed on bytes of IBUF (42_chunk_framer R163). -/
theorem deframe_ibufBytes_eq_fail {s : State} {n : Nat} {e : Err} {c : Cause} (h : deframe (s.ibufBytes n) = .fail e c) :
    (e = .format ∧ c = .frameTooShort ∧ n < 12) ∨
    (e = .format ∧ c = .lengthMismatch ∧ (be32 (s.ibufSlice 0 4)).toNat ≠ n - 12) ∨
    (e = .crcMismatch ∧ c = .none ∧ crc32 (s.ibufSlice 4 (n - 8)) ≠ be32 (s.ibufSlice (n - 4) 4)) := by
  have hcases := deframe_cases (s.ibufBytes n)
  rw [ibufBytes_length] at hcases
  rcases hcases with ⟨hn, ed⟩ | ⟨hn, hlen, ed⟩ | ⟨hn, -, hcrc, ed⟩ | ⟨-, -, -, ed⟩ <;> cases ed.symm.trans h
  · exact .inl ⟨rfl, rfl, hn⟩
  · obtain ⟨hfield, -⟩ := slice_ibufBytes_fields (s := s) hn
    exact .inr (.inl ⟨rfl, rfl, hfield ▸ hlen⟩)
  · obtain ⟨-, -, -, hbody, hlast⟩ := slice_ibufBytes_fields (s := s) hn
    rw [slice_append_slice (by decide) (by omega), hbody, hlast] at hcrc
    exact .inr (.inr ⟨rfl, rfl, hcrc⟩)

/-- A step that changes `ERR` or `CAUSE` completes a command or resets (10_state R30, R31). -/
theorem StepEffect.errorWriters {s t : State} (e : StepEffect s t) (hne : t.err ≠ s.err ∨ t.cause ≠ s.cause) :
    s.NextIsComplete ∨ s.NextIsReset := by
  cases e with
  | host _ e => exact absurd e.keepsResults.cause (hne.resolve_left (not_not.mpr e.keepsResults.err))
  | reset hr => exact .inr hr
  | complete hc => exact .inl hc.1
  | wait => exact absurd rfl (hne.resolve_left (not_not.mpr rfl))

/-- Settles O44: each command's body by its answers, a failing one under the condition of its row; and the kinds of step. -/
theorem errorsComeOnlyFromTheListedCommands : Obligations.ErrorsComeOnlyFromTheListedCommands := by
  refine ⟨?_, fun s t h => (stepEffect_of_step h).errorWriters⟩
  intro i s t hi h
  cases i <;> simp only [Instr.isCommand, Bool.false_eq_true] at hi
  all_goals cases h
  case typeFromBytes | chunkDiscard | crcClear => exact .inl ⟨rfl, rfl⟩
  case typeFromText =>
    rcases typeFromText_cases s with ⟨hlen, e⟩ | ⟨-, halpha, e⟩ | ⟨-, -, e⟩ <;> rw [e]
    · simp [hlen]
    · simp [exists_not_isLetter_of_alpha_eq_false halpha]
    · exact .inl ⟨rfl, rfl⟩
  case chunkNew =>
    rcases chunkNew_cases s with ⟨hcap, e⟩ | ⟨-, e⟩ <;> rw [e]
    · simp [hcap]
    · exact .inl ⟨rfl, rfl⟩
  case chunkDecode =>
    rcases chunkDecode_cases s with ⟨hcap, e⟩ | ⟨-, err, c, hd, e⟩ | ⟨-, ty, len, d, crc, -, e⟩ <;> rw [e]
    · simp [hcap]
    · rcases deframe_ibufBytes_eq_fail hd with ⟨rfl, rfl, hn⟩ | ⟨rfl, rfl, hlen⟩ | ⟨rfl, rfl, hcrc⟩
      · simp [hn]
      · simp [hlen]
      · simp [hcrc]
    · exact .inl ⟨rfl, rfl⟩
  case chunkEncode =>
    rcases chunkEncode_cases s with ⟨hnone, e⟩ | ⟨-, e⟩ <;> rw [e]
    · simp [hnone]
    · exact .inl ⟨rfl, rfl⟩
  case dataAsText =>
    rcases dataAsText_cases s with ⟨hnone, e⟩ | ⟨-, hutf8, e⟩ | ⟨-, -, e⟩ <;> rw [e]
    · simp [hnone]
    · simp [hutf8]
    · exact .inl ⟨rfl, rfl⟩
  case crcAccum =>
    rcases crcAccum_cases s with ⟨hcap, e⟩ | ⟨-, e⟩ <;> rw [e]
    · simp [hcap]
    · exact .inl ⟨rfl, rfl⟩
  case illegalCmd w =>
    have hillegal (hwf : (Instr.illegalCmd w).WellFormed) := (legal_iff w).not.mpr (illegalCmd_wellFormed_iff.mp hwf)
    iterate 10 right
    exact ⟨⟨w, rfl, hillegal⟩, rfl, rfl⟩

end Sys2Proof.Machine
end

section
/-! PROOFS. Reset (70_reset_and_hazards section 1): the values it leaves, whatever the build, the draws, the port and the moves still to
come, and that a state with these values meets the machine's invariant. -/

namespace Sys2Proof.Machine

open Sys2Proof

/-! ### The reset values -/

/-- The build, the draws, the port and the schedule are no part of the Reset column, so they may be anything. -/
theorem State.reset_with_hasResetValues (n : Fin 268435454) (d : Nat) (v : Word) (l : List Move) :
    State.HasResetValues { State.reset with dataWords := n, draw := d, rdata := v, sched := l } where
  busy    := rfl
  done    := rfl
  chValid := rfl
  err     := rfl
  cause   := rfl
  buserr  := rfl
  wrbusy  := rfl
  regs    := by
    intro r
    cases r with
    | status => exact (by decide : State.reset.statusWord = 0)
    | tagFlags | chFlags => exact (by decide : tagFlags 0 = 0x17)
    | crcValue => exact (by decide : State.reset.crcValue = 0)
    | id | param | ctrl | cmd | typeIn | ibufLen | tag | chType | chLen | chCrc | obufLen | crcAcc => rfl
  irq     := rfl
  ibuf    := rfl
  chdata  := rfl
  obuf    := rfl

theorem State.reset_hasResetValues : State.reset.HasResetValues :=
  State.reset_with_hasResetValues State.reset.dataWords State.reset.draw State.reset.rdata State.reset.sched

theorem State.doReset_hasResetValues (s : State) : s.doReset.HasResetValues :=
  State.reset_with_hasResetValues s.dataWords (s.draw + 1) s.rdata s.sched

/-- Settles O8: a step that takes `rst` leads to `doReset` of the state without that move, which has the values of `State.reset`. -/
theorem resetLeavesTheResetValues : Obligations.ResetLeavesTheResetValues :=
  ⟨State.reset_hasResetValues, fun s h =>
    ⟨s.dropMove.doReset, step_of_reset h, s.dropMove.doReset_hasResetValues, s.dropMove.doReset_dataWords, s.dropMove.doReset_sched⟩⟩

/-! ### The invariant -/

/-- The reset values alone meet the invariant: there is no chunk, no frame, no stored byte, no error and no command in flight. -/
theorem State.HasResetValues.inv {s : State} (h : s.HasResetValues) : s.Inv := by
  have hchType : s.chType = 0 := h.regs .chType
  have hchLen : s.chLen = 0 := h.regs .chLen
  have hchCrc : s.chCrc = 0 := h.regs .chCrc
  have hobufLen : s.obufLen = 0 := h.regs .obufLen
  exact {
    memory := by constructor <;> simp [h.ibuf, h.chdata, h.obuf, Memory.wf]
    noChunk := fun _ => ⟨hchType, hchLen, hchCrc⟩
    chunk := by simp [State.ChunkOk, h.chValid]
    obufFits := by simp [State.ObufFits, hobufLen]
    visible := by simp [State.VisibleWritten, hchLen, hobufLen]
    codes := by simp [State.CodesOk, h.cause, h.err]
    inFlight := by simp [State.InFlightOk, h.busy] }

/-- Settles O54: `State.reset` has the reset values, and these meet the invariant. -/
theorem invariantHoldsAtReset : Obligations.InvariantHoldsAtReset :=
  State.reset_hasResetValues.inv

end Sys2Proof.Machine
end
